-- ==== Sys2Proof/Word.lean ====
section
/-!
DEFINITION. The words of the part: a byte, and a row of the 384 dots of the head (00_scope section 4).
-/

namespace Sys2Proof

/-- A byte of a record, a character code, a queue character. Bit 0 is the least significant (section 12). -/
abbrev Byte := BitVec 8

/-- One dot row: bit x is dot x counted from the left edge, set for black (00_scope section 4, R137). -/
abbrev DotRow := BitVec 384

/-- The 12 by 16 dots of a pattern in the order section 12.3 carries them: bit 16*c + r is column c, row r. -/
abbrev Pattern := BitVec 192

end Sys2Proof
end

