-- ==== Sys2Proof/Syntax.lean ====
section
/-!
DEFINITION. The commands of the part: one constructor for each row of spec/opcode_table.json, in the table's order.
A controller command carries the payload bytes of its command record (section 12.4); its length byte is their number.
-/

namespace Sys2Proof

/-- The two sensor inputs of the Monitor (R158). -/
inductive Sensor
  | paper
  | lid
  deriving DecidableEq, Repr

/-- The four print ports (R110). -/
inductive PortId
  | p0
  | p1
  | p2
  | p3
  deriving DecidableEq, Repr

/-- The commands and events of the part. -/
inductive Instr
  /-- POWER_ON (R176, R167): the levels of Paper Present and Lid Closed (true: present, closed), the first supply sample and the first thermistor reading. -/
  | powerOn (paper lid : Bool) (supply : BitVec 16) (therm : Int)
  /-- SHORT_SELECTION (R168): the bytes the selection held at the rise of select. A complete one spells a command by the table of section 12.4 (R178; log 9). -/
  | shortSelection (bytes : List Byte)
  /-- NONE (R170). -/
  | noneCommand (payload : List Byte)
  /-- CONFIG_LINE (R3). -/
  | configLine (payload : List Byte)
  /-- LINE_ON (R4). -/
  | lineOn (payload : List Byte)
  /-- LINE_OFF (R12). -/
  | lineOff (payload : List Byte)
  /-- SET_FILTER (R33). -/
  | setFilter (payload : List Byte)
  /-- SET_MASK (R33). -/
  | setMask (payload : List Byte)
  /-- SET_DEFAULT_ACTION (R33). -/
  | setDefaultAction (payload : List Byte)
  /-- CONFIG_FLOW (R57). -/
  | configFlow (payload : List Byte)
  /-- LOAD_SLOT (R51). -/
  | loadSlot (payload : List Byte)
  /-- REQUEST_SLOT (R52). -/
  | requestSlot (payload : List Byte)
  /-- ABORT_SLOT (R54). -/
  | abortSlot (payload : List Byte)
  /-- SEND_TEXT (R47). -/
  | sendText (payload : List Byte)
  /-- SEND_BREAK (R48). -/
  | sendBreak (payload : List Byte)
  /-- WRITE_STORE (R81). -/
  | writeStore (payload : List Byte)
  /-- READ_STORE (R81). -/
  | readStore (payload : List Byte)
  /-- SET_REMOTE_MASK (R87). -/
  | setRemoteMask (payload : List Byte)
  /-- CONFIG_KEYBOARD (R71). -/
  | configKeyboard (payload : List Byte)
  /-- WRITE_KEYMAP (R72). -/
  | writeKeymap (payload : List Byte)
  /-- READ_KEYMAP (R72). -/
  | readKeymap (payload : List Byte)
  /-- PRINT (R115). -/
  | print (payload : List Byte)
  /-- CANCEL_JOB (R122). -/
  | cancelJob (payload : List Byte)
  /-- PAUSE_PRINT (R125). -/
  | pausePrint (payload : List Byte)
  /-- RESUME_PRINT (R125). -/
  | resumePrint (payload : List Byte)
  /-- CONFIG_PRINT (R128). -/
  | configPrint (payload : List Byte)
  /-- READ_QUEUE (R171). -/
  | readQueue (payload : List Byte)
  /-- READ_STATUS (R172). -/
  | readStatus (payload : List Byte)
  /-- CLEAR_CAUSES (R173). -/
  | clearCauses (payload : List Byte)
  /-- SET_ATTN_MASK (R174). -/
  | setAttnMask (payload : List Byte)
  /-- RESET_UNIT (R175). -/
  | resetUnit (payload : List Byte)
  /-- DOZE (R164). -/
  | doze (payload : List Byte)
  /-- CARRIER_APPEARS (R5). -/
  | carrierAppears
  /-- CARRIER_ENDS (R18). -/
  | carrierEnds
  /-- QUALIFY_TIME_EXPIRY (R6). -/
  | qualifyTimeExpiry
  /-- QUALIFY_DROPOUT_EXPIRY (R5). -/
  | qualifyDropoutExpiry
  /-- LOSS_DELAY_EXPIRY (R7). -/
  | lossDelayExpiry
  /-- FADE_RETURN (R8). -/
  | fadeReturn
  /-- FADE_DROP_EXPIRY (R8). -/
  | fadeDropExpiry
  /-- TA1200_DROP_EXPIRY (R10). -/
  | ta1200DropExpiry
  /-- TURNAROUND_GAP_EXPIRY (R18). -/
  | turnaroundGapExpiry
  /-- LEAD_IN_END (R18). -/
  | leadInEnd
  /-- TALK_LIMIT_EXPIRY (R19). -/
  | talkLimitExpiry
  /-- TAIL_END (R19). -/
  | tailEnd
  /-- CHARACTER_RECEIVED (R14, R16, R17): the data bits as sampled, the parity bit as sampled (not looked at in 8N1), the stop bit (true: mark), and the interval from the start edge to the first space-to-mark edge after the middle of data bit 5, if there was one by the stop bit, in units of 1/3 µs. -/
  | characterReceived (data : Byte) (parity stop : Bool) (edge : Option Nat)
  /-- BREAK_DETECTED (R15). -/
  | breakDetected
  /-- HELD_CHARACTER_RELEASE (R15). -/
  | heldCharacterRelease
  /-- GAP_TIMER_EXPIRY (R22). -/
  | gapTimerExpiry
  /-- REPLY_READY (R42). -/
  | replyReady
  /-- TRANSMIT_ITEM_END (R44). -/
  | transmitItemEnd
  /-- SCAN (R61): bit k is set when key k reads closed. -/
  | scan (closed : BitVec 96)
  /-- REPEAT_TIMER_EXPIRY (R69). -/
  | repeatTimerExpiry
  /-- PARTIAL_LINE_EXPIRY (R117): the port. -/
  | partialLineExpiry (port : PortId)
  /-- JOB_STALL_EXPIRY (R121). -/
  | jobStallExpiry
  /-- PHASE_END (R151). -/
  | phaseEnd
  /-- ROW_PERIOD_END (R153). -/
  | rowPeriodEnd
  /-- SETTLE_EXPIRY (R154). -/
  | settleExpiry
  /-- SENSOR_INPUT_CHANGE (R158): the input and its new level (true: present, closed). -/
  | sensorInputChange (sensor : Sensor) (level : Bool)
  /-- SENSOR_STABLE_EXPIRY (R158): the input. -/
  | sensorStableExpiry (sensor : Sensor)
  /-- SUPPLY_SAMPLE (R159): the sample in units of 10 mV. -/
  | supplySample (sample : BitVec 16)
  /-- THERMISTOR_READING (R161): the reading in °C. -/
  | thermistorReading (reading : Int)
  /-- BREAK_END (R21). -/
  | breakEnd
  deriving DecidableEq, Repr

end Sys2Proof
end

