-- ==== Sys2Proof/Decode.lean ====
section
/-!
DEFINITION. The decoder of table words: no row of spec/opcode_table.json gives its command any bits, so no word spells a command.
Beside it stands the decoder of the Controller Port: a selection is too short, or its code and payload spell a command by the table of section 12.4, or its code is unknown (R168, R169, R178).
-/

namespace Sys2Proof

/-- The command an opcode-table word of `nbits` bits spells: none, since the table gives no row bits. -/
def decodeTableWord (_nbits _w : Nat) : Option Instr := none

/-- The declared length and the bytes of a selection: it ends before its declared length (R168). So is a selection with the code of NONE, though R170 takes NONE whatever its length byte (DEDUCED, log 35). -/
def selectionShort : List Byte → Bool
  | _ :: len :: rest => rest.length < len.toNat
  | _ => true

/-- The command a code byte and its payload spell, by the table of section 12.4 (R178); none from 1Eh on. -/
def commandOfCode (code : Byte) (p : List Byte) : Option Instr :=
  match code.toNat with
  | 0x00 => some (.noneCommand p)
  | 0x01 => some (.configLine p)
  | 0x02 => some (.lineOn p)
  | 0x03 => some (.lineOff p)
  | 0x04 => some (.setFilter p)
  | 0x05 => some (.setMask p)
  | 0x06 => some (.setDefaultAction p)
  | 0x07 => some (.configFlow p)
  | 0x08 => some (.loadSlot p)
  | 0x09 => some (.requestSlot p)
  | 0x0A => some (.abortSlot p)
  | 0x0B => some (.sendText p)
  | 0x0C => some (.sendBreak p)
  | 0x0D => some (.writeStore p)
  | 0x0E => some (.readStore p)
  | 0x0F => some (.setRemoteMask p)
  | 0x10 => some (.configKeyboard p)
  | 0x11 => some (.writeKeymap p)
  | 0x12 => some (.readKeymap p)
  | 0x13 => some (.print p)
  | 0x14 => some (.cancelJob p)
  | 0x15 => some (.pausePrint p)
  | 0x16 => some (.resumePrint p)
  | 0x17 => some (.configPrint p)
  | 0x18 => some (.readQueue p)
  | 0x19 => some (.readStatus p)
  | 0x1A => some (.clearCauses p)
  | 0x1B => some (.setAttnMask p)
  | 0x1C => some (.resetUnit p)
  | 0x1D => some (.doze p)
  | _ => none

/-- The command of a complete selection: its payload is as many bytes as its length byte declares, and bytes beyond them are ignored (R168). -/
def selectionCommand : List Byte → Option Instr
  | code :: len :: rest => commandOfCode code (rest.take len.toNat)
  | _ => none

end Sys2Proof
end

