-- ==== Sys2Proof/Config.lean ====
section
/-!
DEFINITION. What the part fixes (capacities, durations) and the free values the spec leaves open.
Durations are in the model's units of time, 1/3 µs, in which every duration of the spec is whole (log 1).
-/

namespace Sys2Proof.Config

/-- Free value: the dots of the fixed glyph of a code (R131 names the store and gives only the pattern of 20h; log 6). -/
opaque fixedGlyph : Byte → Pattern

/-- Free choice: whether the Router's attempt is taken before the Dispatcher's when both could be taken (R102; log 4). -/
opaque routerFirst : Nat → Bool

/-- Free choice: which of several timers that are due at one moment expires first (log 4). -/
opaque timerOrder : Nat → Nat

/-- Free value: the supply sample a wake takes, which no row carries (R159, R166; log 7). -/
opaque wakeSupply : Nat → BitVec 16

/-- Free value: the thermistor reading a wake takes, which no row carries (R161, R166; log 7). -/
opaque wakeTherm : Nat → Int

/-- Free value: whether a start bit that R14 confirms is under way at that moment, for which no row stands (R22; log 12). -/
opaque startBit : Nat → Bool

/-- Units of the model's clock in one microsecond, DESIGN CHOICE (log 1). -/
def unitsPerUs : Nat := 3

/-- Units of the model's clock in one millisecond. -/
def unitsPerMs : Nat := 3000

/-- The qualify dropout of R5 and the return time of R8: 20 ms. -/
def carrierSettle : Nat := 20 * unitsPerMs

/-- The lead-in of TAKING (R18): 40 ms. -/
def leadIn : Nat := 40 * unitsPerMs

/-- The tail of RELEASING (R19): 20 ms. -/
def tail : Nat := 20 * unitsPerMs

/-- The stability time of a sensor input (R158): 20 ms. -/
def sensorStable : Nat := 20 * unitsPerMs

/-- The settle time of the Head Drive (R154): 500 ms. -/
def headSettle : Nat := 500 * unitsPerMs

/-- The idle time after which the history is taken as white (R147): 100 ms. -/
def historyLife : Nat := 100 * unitsPerMs

/-- The recovery gap after the longest strobe of a phase (R151), in µs. -/
def recoveryGap : Nat := 20

/-- The scan interval in Run and in Doze (R61). -/
def scanRun : Nat := 4 * unitsPerMs
def scanDoze : Nat := 32 * unitsPerMs

/-- The supply sample intervals of R159: Head Drive working, IDLE in Run, IDLE in Doze. -/
def supplyWorking : Nat := 2 * unitsPerMs
def supplyIdleRun : Nat := 100 * unitsPerMs
def supplyIdleDoze : Nat := 1000 * unitsPerMs

/-- The thermistor reading interval (R161). -/
def thermistor : Nat := 50 * unitsPerMs

/-- Capacities of the queues (R94, R103, 3.2, R68, R63, R137) and of the soft-key pool (R84). -/
def rtqCap : Nat := 256
def crqCap : Nat := 64
def ttqCap : Nat := 128
def eventCap : Nat := 24
def downCap : Nat := 6
def rowCap : Nat := 4
def poolCap : Nat := 320
def stringCap : Nat := 64

/-- The most events the Key Event List may hold for a repeat to be appended (R69). -/
def repeatLimit : Nat := 4

/-- The dots across the paper (R116). -/
def paperWidth : Nat := 384

/-- Bound on the follow-ups of one event: far above what the queues can give rise to (log 25). -/
def followUps : Nat := 8192

end Sys2Proof.Config
end

