-- ==== Sys2Proof/Machine/State.lean ====
section
/-!
DEFINITION. The state of the part as plain data, block by block (00_scope section 2.1), the reasons a step can stop, and the state after power-on.
Times are moments of the model's clock, in units of 1/3 µs (log 1): a timer is absent, or the moment it was started.
-/

namespace Sys2Proof.Machine

/-! ## Coupler Modem (01_the_acoustic_line) -/

/-- Speed mode (R1). -/
inductive Speed
  | sb300
  | ta1200
  deriving DecidableEq, Repr

/-- Role in SB300 (R1). -/
inductive Role
  | originate
  | answer
  deriving DecidableEq, Repr

/-- Frame format (R2). -/
inductive Format
  | f8N1
  | f7E1
  | f7O1
  deriving DecidableEq, Repr

/-- Line state (R4 to R11). -/
inductive LineState
  | off
  | listen
  | qualify
  | online
  | fade
  deriving DecidableEq, Repr

/-- Direction state of TA1200 ONLINE (R18, R19). -/
inductive Direction
  | listening
  | taking
  | talking
  | releasing
  deriving DecidableEq, Repr

/-- The line settings of section 1.3, times in ms. -/
structure LineSettings where
  speed : Speed := .sb300
  role : Role := .originate
  format : Format := .f8N1
  station : Fin 31 := 0
  textRoute : Fin 16 := 0
  substitute : Byte := 0x7F
  qualifyMs : Nat := 400
  lossMs : Nat := 60
  dropMs : Nat := 1600
  gapMs : Nat := 60
  talkMs : Nat := 2000
  deriving DecidableEq, Repr

/-- The timers of the line and direction states, each absent or the moment it started. -/
structure LineTimers where
  /-- Qualify timer (R5). -/
  qualify : Option Nat := none
  /-- Absence of the carrier in QUALIFY (R5). -/
  dropout : Option Nat := none
  /-- Loss timer (R7). -/
  loss : Option Nat := none
  /-- Drop timer of FADE (R8) and of TA1200 (R10). -/
  drop : Option Nat := none
  /-- Presence of the carrier in FADE (R8). -/
  back : Option Nat := none
  /-- Turnaround-gap timer (R18). -/
  gap : Option Nat := none
  /-- Lead-in of TAKING (R18). -/
  leadIn : Option Nat := none
  /-- Talk timer (R18, R19). -/
  talk : Option Nat := none
  /-- Tail of RELEASING (R19). -/
  tail : Option Nat := none
  deriving DecidableEq, Repr

/-- The Coupler Modem. -/
structure Line where
  settings : LineSettings := {}
  state : LineState := .off
  direction : Option Direction := none
  timers : LineTimers := {}
  /-- Receive timing trim (R17): nominal, or the measured interval of seven bit times. -/
  trim : Option Nat := none
  /-- An all-space character is held at its stop bit (R14, R15). -/
  held : Bool := false
  /-- A Break was detected and the line has not yet returned to mark (R15, R21). -/
  inBreak : Bool := false
  /-- Collision count (R18). -/
  collisions : Nat := 0
  deriving DecidableEq, Repr

/-! ## Record Engine (02_inbound_line_records) -/

/-- Segment of a record or of a print job (section 12.1). -/
inductive Segment
  | whole
  | first
  | middle
  | last
  deriving DecidableEq, Repr

/-- Reception state (2.1). DECIDE is passed inside one event and never rests in the state (log 20). -/
inductive RxState
  | text
  | marker
  | header
  | station
  | route
  | payload
  | check
  deriving DecidableEq, Repr

/-- The record under assembly (2.1). -/
structure Assembly where
  kind : BitVec 3 := 0
  lenCode : BitVec 3 := 0
  station : BitVec 5 := 0
  /-- Some of the three upper bits of the station byte is set (R25). -/
  stationUpper : Bool := false
  route : Fin 16 := 0
  segment : Segment := .whole
  ack : Bool := false
  /-- The upper bit of the route byte is set (R25). -/
  routeUpper : Bool := false
  payload : List Byte := []
  crc : BitVec 16 := 0
  crcLow : Option Byte := none
  deriving DecidableEq, Repr

/-- The five record error counts (R28). -/
structure ErrorCounts where
  marker : Nat := 0
  header : Nat := 0
  gap : Nat := 0
  framing : Nat := 0
  crc : Nat := 0
  deriving DecidableEq, Repr

/-- The causes of a counted abandonment (R28). -/
inductive RecordError
  | marker
  | header
  | gap
  | framing
  | crc
  deriving DecidableEq, Repr

/-- Action of a filter or of the Default Action (2.6). -/
inductive FilterAction
  | refuse
  | accept
  deriving DecidableEq, Repr

/-- One acceptance filter (2.6). -/
structure Filter where
  enable : Bool := false
  kind : BitVec 3 := 0
  route : BitVec 4 := 0
  segment : BitVec 2 := 0
  mask : Fin 4 := 0
  action : FilterAction := .refuse
  report : Bool := false
  deriving DecidableEq, Repr

/-- One filter mask (2.6). -/
structure FilterMask where
  kind : BitVec 3 := 0
  route : BitVec 4 := 0
  segment : BitVec 2 := 0
  deriving DecidableEq, Repr

/-- The Default Action (2.6). -/
structure DefaultAction where
  action : FilterAction := .refuse
  report : Bool := false
  deriving DecidableEq, Repr

/-- An outbound record before it is framed (3.4). -/
structure OutRecord where
  kind : BitVec 3
  route : Fin 16
  segment : Segment
  payload : List Byte
  deriving DecidableEq, Repr

/-- A reply with the moment it becomes ready (R42). -/
structure Reply where
  record : OutRecord
  readyAt : Nat
  deriving DecidableEq, Repr

/-- The Record Engine. -/
structure Engine where
  rx : RxState := .text
  record : Assembly := {}
  /-- Gap timer (R22). -/
  gap : Option Nat := none
  counts : ErrorCounts := {}
  filters : Vector Filter 8 := Vector.replicate 8 {}
  masks : Vector FilterMask 4 := Vector.replicate 4 {}
  default : DefaultAction := {}
  /-- Response Slot (R42). -/
  reply : Option Reply := none
  deriving DecidableEq, Repr

/-! ## Line Transmitter (03_outbound_traffic) -/

/-- Item of an outbound record (R49). -/
inductive TxItem
  | brk
  | char (code : Byte)
  deriving DecidableEq, Repr

/-- Source of a record in progress (R44). -/
inductive TxSource
  | reply
  | slot (n : Fin 4)
  deriving DecidableEq, Repr

/-- Transmission in progress (R44). A record holds its whole sequence, the position of the item on the line or next, and the start of that item if it is on the line. -/
inductive Progress
  | idle
  | char (code : Byte) (flow : Bool) (start : Nat)
  | brk (start : Nat)
  | record (source : TxSource) (items : List TxItem) (pos : Nat) (start : Option Nat)
  deriving DecidableEq, Repr

/-- Slot state (3.5). -/
inductive SlotState
  | free
  | loaded
  | requested
  | sending
  | sent
  | aborted
  deriving DecidableEq, Repr

/-- One Transmit Slot (3.5). -/
structure Slot where
  state : SlotState := .free
  route : Fin 16 := 0
  segment : Segment := .whole
  payload : List Byte := []
  abortNoted : Bool := false
  deriving DecidableEq, Repr

/-- Flow state (R58). -/
inductive FlowState
  | flowing
  | holdPending
  | held
  | resumePending
  deriving DecidableEq, Repr

/-- Flow settings (3.7). -/
structure FlowSettings where
  enable : Bool := true
  high : Nat := 192
  low : Nat := 64
  holdCode : Byte := 0x13
  resumeCode : Byte := 0x11
  deriving DecidableEq, Repr

/-- The Line Transmitter. -/
structure Transmitter where
  progress : Progress := .idle
  ttq : List Byte := []
  slots : Vector Slot 4 := Vector.replicate 4 {}
  flow : FlowState := .flowing
  flowSettings : FlowSettings := {}
  breakPending : Bool := false
  deriving DecidableEq, Repr

/-! ## Keyboard (04_the_keyboard) -/

/-- Layer (R66). -/
inductive Layer
  | plain
  | shift
  | control
  | function
  deriving DecidableEq, Repr

/-- Modifier kind (4.2). -/
inductive ModKind
  | shift
  | control
  | function
  | lock
  deriving DecidableEq, Repr

/-- Local action (R72). -/
inductive LocalAction
  | feedLine
  | tearFeed
  | toggleEcho
  | sendBreak
  | cancelPrint
  | attention
  deriving DecidableEq, Repr

/-- Keymap entry (R72). -/
inductive KeyAction
  | none
  | character (code : Byte)
  | softKey (n : Fin 12)
  | localAction (a : LocalAction)
  | modifier (m : ModKind)
  | report
  deriving DecidableEq, Repr

/-- A key of the Down Set, with its modifier kind if it was admitted as one (4.2). -/
structure DownKey where
  key : Fin 96
  modifier : Option ModKind
  deriving DecidableEq, Repr

/-- Kind of a key event (R68). -/
inductive EventKind
  | press
  | repeated
  deriving DecidableEq, Repr

/-- Event of the Key Event List (R68). -/
structure KeyEvent where
  key : Fin 96
  layer : Layer
  kind : EventKind
  deriving DecidableEq, Repr

/-- The repeating key, its layer snapshot and the moment its timer expires (R69). -/
structure RepeatKey where
  key : Fin 96
  layer : Layer
  due : Nat
  deriving DecidableEq, Repr

/-- Keyboard settings (R71). -/
structure KeySettings where
  press : Nat := 3
  release : Nat := 5
  delayMs : Nat := 500
  intervalMs : Nat := 100
  route : Fin 16 := 1
  deriving DecidableEq, Repr

/-- The Key Scanner and the Key Dispatcher. -/
structure Keyboard where
  /-- Debounce count of each key (R62). -/
  counts : List Nat := List.replicate 96 0
  down : List DownKey := []
  /-- Keys awaiting release (R79). -/
  awaiting : BitVec 96 := 0
  lock : Bool := false
  repeating : Option RepeatKey := none
  events : List KeyEvent := []
  /-- The keymap: entries that are not Report, by 4 * key + layer, strictly rising; every other entry is Report (R72). -/
  keymap : List (Nat × KeyAction) := []
  settings : KeySettings := {}
  /-- Moment of the next scan (R61). -/
  nextScan : Nat := Config.scanRun
  deriving DecidableEq, Repr

/-! ## Shared Store (05_shared_stores_and_remote_permission) -/

/-- Translation of a route (5.2). -/
inductive Translate
  | none
  | upper
  | sevenBit
  deriving DecidableEq, Repr

/-- Print style (R132). -/
inductive Style
  | normal
  | wide
  | tall
  | inverse
  deriving DecidableEq, Repr

/-- Route Table entry (5.2). -/
structure Route where
  print : Bool := false
  transmit : Bool := false
  controller : Bool := false
  translate : Translate := .none
  style : Style := .normal
  dropBlocked : Bool := false
  locked : Bool := false
  overflow : Bool := false
  deriving DecidableEq, Repr

/-- Soft key (5.3). -/
structure SoftKey where
  string : List Byte := []
  route : Fin 16 := 1
  deriving DecidableEq, Repr

/-- User glyph slot (5.4). -/
structure Glyph where
  valid : Bool := false
  pattern : Pattern := 0
  deriving DecidableEq, Repr

/-- Remote Write Mask (R87): which regions are allowed. -/
structure RemoteMask where
  routes : Bool := false
  softKeys : Bool := true
  glyphs : Bool := true
  energy : Bool := false
  deriving DecidableEq, Repr

/-- The Route Table at power-on (5.2). -/
def Route.powerOn : Vector Route 16 :=
  #v[{ print := true }, { transmit := true, print := true }, { controller := true },
     {}, {}, {}, {}, {}, {}, {}, {}, {}, {}, {}, {}, {}]

/-- The Energy Settings at power-on (5.5). -/
def Energy.powerOn : Vector Nat 16 :=
  #v[1400, 1250, 1110, 980, 860, 750, 650, 560, 4, 16, 0, 0, 0, 0, 0, 0]

/-- The Shared Store. -/
structure Store where
  routes : Vector Route 16 := Route.powerOn
  softKeys : Vector SoftKey 12 := Vector.replicate 12 {}
  glyphs : Vector Glyph 32 := Vector.replicate 32 {}
  energy : Vector Nat 16 := Energy.powerOn
  remoteMask : RemoteMask := {}
  deriving DecidableEq, Repr

/-! ## Text queues (06_stream_routing_and_the_text_queues) -/

/-- Cell of the RTQ (R94). -/
structure TextCell where
  code : Byte
  route : Fin 16
  substituted : Bool
  deriving DecidableEq, Repr

/-- Ports of print jobs (R112). -/
inductive JobPort
  | p2
  | p3
  deriving DecidableEq, Repr

/-- Outcome of a Slot Done notice (R55). -/
inductive SlotOutcome
  | sent
  | abortTooLate
  | aborted
  | lineLost
  deriving DecidableEq, Repr

/-- Event of a Job Event notice (7.9). -/
inductive JobEvent
  | complete
  | missingFirst
  | missingLast
  | stalled
  | cancelled
  deriving DecidableEq, Repr

/-- Wake cause (R166). -/
inductive WakeCause
  | keyPress
  | carrier
  | command
  deriving DecidableEq, Repr

/-- Notice with its arguments (R105). -/
inductive Notice
  | lineState (state : LineState) (speed : Speed)
  | slotDone (slot : Fin 4) (outcome : SlotOutcome)
  | jobEvent (port : JobPort) (event : JobEvent)
  | recordAccepted (kind : BitVec 3) (route : Fin 16) (filter : Nat)
  | storeWritten (selector : Nat) (index : Nat)
  | brk
  | keyAttention (key : Fin 96) (layer : Layer)
  | wake (cause : WakeCause)
  deriving DecidableEq, Repr

/-- Entry of the CRQ (R103). -/
inductive CrqEntry
  | character (route : Fin 16) (code : Byte) (substituted : Bool)
  | key (key : Fin 96) (layer : Layer)
  | message (filter : Nat) (payload : List Byte)
  | notice (n : Notice)
  deriving DecidableEq, Repr

/-! ## Print Arbiter (07_print_ports_arbitration_and_print_jobs) -/

/-- What a port cell is (R110). -/
inductive CellBody
  | char (code : Byte) (style : Style)
  | jobStart
  | jobEnd
  deriving DecidableEq, Repr

/-- Cell of a port with the moment of its entry (R110). -/
structure PortCell where
  body : CellBody
  entered : Nat
  deriving DecidableEq, Repr

/-- One port: its cells, and the cells it admitted, composed and discarded since power-on (R111). -/
structure Port where
  cells : List PortCell := []
  admitted : Nat := 0
  composed : Nat := 0
  discarded : Nat := 0
  deriving DecidableEq, Repr

/-- Job state of P2 or P3 (R112). -/
inductive JobState
  | none
  | opened
  | discarding
  deriving DecidableEq, Repr

/-- Arbiter settings (R128): priorities, Partial Line Timeout in ms, Job Stall Timeout in s. -/
structure ArbiterSettings where
  prio0 : Nat := 2
  prio1 : Nat := 3
  prio2 : Nat := 1
  prio3 : Nat := 1
  partialMs : Nat := 800
  stallS : Nat := 5
  deriving DecidableEq, Repr

/-- The Print Arbiter. -/
structure Arbiter where
  p0 : Port := {}
  p1 : Port := {}
  p2 : Port := {}
  p3 : Port := {}
  job2 : JobState := .none
  job3 : JobState := .none
  /-- Job Hold (R120). -/
  hold : Option JobPort := none
  pause : Bool := false
  lastGranted : PortId := .p3
  /-- Stall timer (R121). -/
  stall : Option Nat := none
  settings : ArbiterSettings := {}
  deriving DecidableEq, Repr

/-! ## Line Composer (08_line_composition) -/

/-- Entry of the Row Queue (R137). -/
inductive RowEntry
  | dots (row : DotRow)
  | feed (count : Nat)
  deriving DecidableEq, Repr

/-- CR Mode (R140). -/
inductive CrMode
  | ignore
  | newLine
  deriving DecidableEq, Repr

/-- The line in composition: its port (the grant state, R119), the entries still to append, and whether it holds a JobEnd. -/
structure CompLine where
  port : PortId
  entries : List RowEntry
  jobEnd : Bool
  deriving DecidableEq, Repr

/-- Composer settings (R140). -/
structure ComposerSettings where
  crMode : CrMode := .ignore
  lineGap : Nat := 4
  tear : Nat := 96
  deriving DecidableEq, Repr

/-- The Line Composer and the Row Queue. -/
structure Composer where
  line : Option CompLine := none
  rows : List RowEntry := []
  settings : ComposerSettings := {}
  deriving DecidableEq, Repr

/-! ## Head Drive (09_strobe_energy_and_the_head_drive) -/

/-- State of the Head Drive (R153). -/
inductive HeadState
  | idle
  | firing
  | advancing
  | hold
  | settle
  deriving DecidableEq, Repr

/-- Entry in hand (9.1). -/
inductive InHand
  | none
  | dots (row : DotRow)
  | feed (left : Nat)
  deriving DecidableEq, Repr

/-- A dot group in a phase: the count of its black dots, these dots and the cold ones among them (the group's leftmost dot in bit 0), its two widths in µs, and its strobe time (R146, R148). -/
structure GroupFire where
  group : Fin 6
  black : Nat
  dots : BitVec 64
  coldDots : BitVec 64
  cold : Nat
  hot : Nat
  strobe : Nat
  deriving DecidableEq, Repr

/-- A phase: the groups fired together and its duration in µs (R150, R151). -/
structure Phase where
  groups : List GroupFire
  duration : Nat
  deriving DecidableEq, Repr

/-- The row under way: the phases still to end, the first of them firing until `phaseEnd`, and the end of the row period (R151). -/
structure RowRun where
  phases : List Phase
  phaseEnd : Nat
  periodEnd : Nat
  deriving DecidableEq, Repr

/-- The Head Drive. -/
structure Head where
  state : HeadState := .idle
  inHand : InHand := .none
  row : Option RowRun := none
  history : DotRow := 0
  /-- Idle timer (R147). -/
  idleSince : Option Nat := none
  /-- Settle timer (R154). -/
  settle : Option Nat := none
  /-- Effective dot limit L (R149). -/
  limit : Nat := 96
  /-- A print reset came during the row under way (R157). -/
  clearAtEnd : Bool := false
  speed : Fin 4 := 1
  dotLimit : Nat := 96
  /-- Paper steps given (R151), the model's counter of an output (log 22). -/
  steps : Nat := 0
  deriving DecidableEq, Repr

/-! ## Supply and Sensor Monitor (10_paper_supply_temperature_and_standby) -/

/-- Sensed state of an input (true: present, closed) and its stability timer (R158). -/
structure Sensed where
  value : Bool
  stable : Option Nat := none
  deriving DecidableEq, Repr

/-- Power state (R164). -/
inductive Power
  | run
  | doze
  deriving DecidableEq, Repr

/-- The last four supply samples, oldest first (R159). -/
structure Samples where
  a : Nat
  b : Nat
  c : Nat
  d : Nat
  deriving DecidableEq, Repr

/-- The Supply and Sensor Monitor. -/
structure Monitor where
  paper : Sensed
  lid : Sensed
  samples : Samples
  temp : Int
  fallback : Bool := false
  supplyHold : Bool := false
  thermalHold : Bool := false
  otLimit : Nat := 65
  power : Power := .run
  lastSupply : Nat := 0
  supplyOwed : Bool := false
  lastTherm : Nat := 0
  thermOwed : Bool := false
  deriving DecidableEq, Repr

/-! ## Controller Port (11_the_controller_port) -/

/-- Result of a command (11.2). -/
inductive Result
  | done
  | busy
  | full
  | badField
  | unknown
  deriving DecidableEq, Repr

/-- Response record (11.1). -/
structure Response where
  result : Result := .done
  payload : List Byte := []
  deriving DecidableEq, Repr

/-- The Controller Port. Bit n of the Causes set and of the mask is cause n of section 12.5; a mask bit set masks its cause (log 28). -/
structure CtlPort where
  /-- Selection in progress: the bytes received since select fell (R168, R176; log 21). -/
  selection : Option (List Byte) := none
  response : Response := {}
  causes : BitVec 10 := 0
  mask : BitVec 10 := 0
  deriving DecidableEq, Repr

/-! ## The whole part -/

/-- The levels at the inputs: the carrier detector, the two sensors, the two analogue inputs (00_scope section 3; log 7). -/
structure Pins where
  carrier : Bool
  paper : Bool
  lid : Bool
  supply : BitVec 16
  therm : Int
  deriving DecidableEq, Repr

/-- The state of the part, the model's clock `now` (log 1), the counter `choices` of free choices (log 4), and the commands that wait. -/
structure State where
  now : Nat
  choices : Nat
  pins : Pins
  line : Line
  engine : Engine
  tx : Transmitter
  keys : Keyboard
  store : Store
  rtq : List TextCell
  crq : List CrqEntry
  arb : Arbiter
  comp : Composer
  head : Head
  mon : Monitor
  port : CtlPort
  pending : List Instr
  deriving DecidableEq, Repr

/-- Reasons of a fault: none. The spec names no stop of the part (INVENTORY, Faults), so nobody raises one. -/
inductive Fault
  deriving DecidableEq, Repr

/-- Reasons of a refusal. -/
inductive Refusal
  /-- Raised by `exec` alone, for a command that has no meaning yet; safe: nothing is claimed of the part there. -/
  | notModelled (mnemonic : String)
  deriving DecidableEq, Repr

/-- Power-on with paper present, the lid closed, 7.20 V, 25 °C and no carrier: the readings are a DESIGN CHOICE (log 8), every other value is the spec's. -/
def State.reset : State where
  now := 0
  choices := 0
  pins := { carrier := false, paper := true, lid := true, supply := 720, therm := 25 }
  line := {}
  engine := {}
  tx := {}
  keys := {}
  store := {}
  rtq := []
  crq := []
  arb := {}
  comp := {}
  head := {}
  mon := { paper := { value := true }, lid := { value := true },
           samples := { a := 720, b := 720, c := 720, d := 720 }, temp := 25 }
  port := {}
  pending := []

end Sys2Proof.Machine
end

