-- ==== Sys2Proof/Machine/Operands.lean ====
section
/-!
DEFINITION. The operand forms of the part: the fields of a payload (section 12.4), numeric settings rounded and clamped (00_scope section 4), enumerated codes, and the splitting of record bytes (section 12.1).
-/

namespace Sys2Proof.Machine

/-! ## Fields of a payload -/

/-- Byte `i` of a payload. -/
def byteAt (p : List Byte) (i : Nat) : Byte := p.getD i 0

/-- The two-byte value at `i`, low byte first (section 12). -/
def wordAt (p : List Byte) (i : Nat) : Nat := (byteAt p i).toNat + 256 * (byteAt p (i + 1)).toNat

/-- The length checks of R169 item 2: at most 72 bytes declared, and the command's fixed fields present. -/
def lengthOk (fixed : Nat) (p : List Byte) : Bool := p.length ≤ 72 && fixed ≤ p.length

/-- A two-byte value as carried, low byte first. -/
def wordBytes (n : Nat) : List Byte := [BitVec.ofNat 8 n, BitVec.ofNat 8 (n / 256)]

/-- A number below `n` read from a byte, or nothing when the byte is out of range. -/
def fin? (n : Nat) (b : Byte) : Option (Fin n) :=
  if h : b.toNat < n then some ⟨b.toNat, h⟩ else none

/-! ## Numeric settings -/

/-- A value held to the limits of its range (00_scope section 4). -/
def clamp (lo hi v : Nat) : Nat := max lo (min hi v)

/-- A numeric setting given in steps: rounded down to a whole step, then clamped (00_scope section 4). -/
def quantize (step lo hi v : Nat) : Nat := clamp lo hi (v / step * step)

/-! ## Enumerated codes -/

/-- A flag byte: 0 or 1 (R178). -/
def flag? (b : Byte) : Option Bool :=
  if b = 0 then some false else if b = 1 then some true else none

def speed? (b : Byte) : Option Speed :=
  if b = 0 then some .sb300 else if b = 1 then some .ta1200 else none

def role? (b : Byte) : Option Role :=
  if b = 0 then some .originate else if b = 1 then some .answer else none

def format? (b : Byte) : Option Format :=
  if b = 0 then some .f8N1 else if b = 1 then some .f7E1 else if b = 2 then some .f7O1 else none

def filterAction? (b : Byte) : Option FilterAction :=
  if b = 0 then some .refuse else if b = 1 then some .accept else none

def crMode? (b : Byte) : Option CrMode :=
  if b = 0 then some .ignore else if b = 1 then some .newLine else none

/-- Segment by its two-bit code (section 12.1). -/
def Segment.ofBits (b : BitVec 2) : Segment :=
  if b = 0 then .whole else if b = 1 then .first else if b = 2 then .middle else .last

def Segment.bits : Segment → BitVec 2
  | .whole => 0
  | .first => 1
  | .middle => 2
  | .last => 3

def segment? (b : Byte) : Option Segment :=
  if b.toNat < 4 then some (Segment.ofBits (b.setWidth 2)) else none

/-- Style by its two-bit code (section 12.3). -/
def Style.ofBits (b : BitVec 2) : Style :=
  if b = 0 then .normal else if b = 1 then .wide else if b = 2 then .tall else .inverse

def Style.bits : Style → BitVec 2
  | .normal => 0
  | .wide => 1
  | .tall => 2
  | .inverse => 3

def style? (b : Byte) : Option Style :=
  if b.toNat < 4 then some (Style.ofBits (b.setWidth 2)) else none

/-- Translate by its two-bit code; 3 is out of range (section 12.3). -/
def translate? (b : BitVec 2) : Option Translate :=
  if b = 0 then some .none else if b = 1 then some .upper else if b = 2 then some .sevenBit else Option.none

def Translate.bits : Translate → BitVec 2
  | .none => 0
  | .upper => 1
  | .sevenBit => 2

def layer? (b : Byte) : Option Layer :=
  if b = 0 then some .plain else if b = 1 then some .shift else if b = 2 then some .control
  else if b = 3 then some .function else Option.none

def Layer.code : Layer → Nat
  | .plain => 0
  | .shift => 1
  | .control => 2
  | .function => 3

def ModKind.code : ModKind → Byte
  | .shift => 0
  | .control => 1
  | .function => 2
  | .lock => 3

def modKind? (b : Byte) : Option ModKind :=
  if b = 0 then some .shift else if b = 1 then some .control else if b = 2 then some .function
  else if b = 3 then some .lock else Option.none

def LocalAction.code : LocalAction → Byte
  | .feedLine => 0
  | .tearFeed => 1
  | .toggleEcho => 2
  | .sendBreak => 3
  | .cancelPrint => 4
  | .attention => 5

def localAction? (b : Byte) : Option LocalAction :=
  if b = 0 then some .feedLine else if b = 1 then some .tearFeed else if b = 2 then some .toggleEcho
  else if b = 3 then some .sendBreak else if b = 4 then some .cancelPrint else if b = 5 then some .attention
  else Option.none

/-- A keymap entry from its action and argument bytes; none if the action or the argument is out of range (R72, section 12.4). -/
def keyAction? (action arg : Byte) : Option KeyAction :=
  if action = 0 then (if arg = 0 then some .none else Option.none)
  else if action = 1 then some (.character arg)
  else if action = 2 then (fin? 12 arg).map .softKey
  else if action = 3 then (localAction? arg).map .localAction
  else if action = 4 then (modKind? arg).map .modifier
  else if action = 5 then (if arg = 0 then some .report else Option.none)
  else Option.none

/-- The action and argument bytes of a keymap entry (section 12.4). -/
def KeyAction.bytes : KeyAction → List Byte
  | .none => [0, 0]
  | .character c => [1, c]
  | .softKey n => [2, BitVec.ofNat 8 n.val]
  | .localAction a => [3, a.code]
  | .modifier m => [4, m.code]
  | .report => [5, 0]

/-- Scope of RESET UNIT (section 12.4). -/
inductive ResetScope
  | line
  | keyboard
  | print
  | all
  deriving DecidableEq, Repr

def resetScope? (b : Byte) : Option ResetScope :=
  if b = 0 then some .line else if b = 1 then some .keyboard else if b = 2 then some .print
  else if b = 3 then some .all else none

def jobPort? (b : Byte) : Option JobPort :=
  if b = 2 then some .p2 else if b = 3 then some .p3 else none

/-! ## Codes the part reports -/

def LineState.code : LineState → Nat
  | .off => 0
  | .listen => 1
  | .qualify => 2
  | .online => 3
  | .fade => 4

def Speed.code : Speed → Nat
  | .sb300 => 0
  | .ta1200 => 1

def Direction.code : Direction → Nat
  | .listening => 0
  | .taking => 1
  | .talking => 2
  | .releasing => 3

def FlowState.code : FlowState → Nat
  | .flowing => 0
  | .holdPending => 1
  | .held => 2
  | .resumePending => 3

def HeadState.code : HeadState → Nat
  | .idle => 0
  | .firing => 1
  | .advancing => 2
  | .hold => 3
  | .settle => 4

def portCode : PortId → Nat
  | .p0 => 0
  | .p1 => 1
  | .p2 => 2
  | .p3 => 3

def JobPort.toPort : JobPort → PortId
  | .p2 => .p2
  | .p3 => .p3

def JobPort.code : JobPort → Nat
  | .p2 => 2
  | .p3 => 3

def SlotOutcome.code : SlotOutcome → Nat
  | .sent => 0
  | .abortTooLate => 1
  | .aborted => 2
  | .lineLost => 3

def JobEvent.code : JobEvent → Nat
  | .complete => 0
  | .missingFirst => 1
  | .missingLast => 2
  | .stalled => 3
  | .cancelled => 4

def WakeCause.code : WakeCause → Nat
  | .keyPress => 0
  | .carrier => 1
  | .command => 2

/-- Notice kind code and arguments (section 12.5). -/
def Notice.bytes : Notice → Nat × List Nat
  | .lineState s m => (1, [s.code, m.code])
  | .slotDone n o => (2, [n.val, o.code])
  | .jobEvent p e => (3, [p.code, e.code])
  | .recordAccepted k r f => (4, [k.toNat, r.val, f])
  | .storeWritten sel i => (5, [sel, i])
  | .brk => (6, [])
  | .keyAttention k l => (7, [k.val, l.code])
  | .wake c => (8, [c.code])

/-- Encoding of a CRQ entry in a READ QUEUE response (section 12.5). -/
def CrqEntry.encode : CrqEntry → List Byte
  | .character r c sub => [1, BitVec.ofNat 8 (r.val + if sub then 128 else 0), c]
  | .key k l => [2, BitVec.ofNat 8 k.val, BitVec.ofNat 8 l.code]
  | .message f p => 3 :: BitVec.ofNat 8 f :: BitVec.ofNat 8 p.length :: p
  | .notice n =>
    4 :: BitVec.ofNat 8 n.bytes.1 :: BitVec.ofNat 8 n.bytes.2.length :: n.bytes.2.map (BitVec.ofNat 8)

def Result.code : Result → Byte
  | .done => 0
  | .busy => 1
  | .full => 2
  | .badField => 3
  | .unknown => 4

/-- Byte `i` shifted out during a selection (R168): result, length, payload, then 00h. -/
def Response.shiftOut (r : Response) (i : Nat) : Byte :=
  (r.result.code :: BitVec.ofNat 8 r.payload.length :: r.payload).getD i 0

/-! ## Bytes of line records (section 12.1) -/

/-- Payload bytes of a length code (R24). -/
def payloadLength (code : BitVec 3) : Nat :=
  if code = 0 then 0 else if code = 1 then 2 else if code = 2 then 4 else if code = 3 then 8
  else if code = 4 then 12 else if code = 5 then 16 else if code = 6 then 32 else 48

/-- Length code of a payload length (R49), if a length code can give it (R51). -/
def lengthCode? (n : Nat) : Option (BitVec 3) :=
  if n = 0 then some 0 else if n = 2 then some 1 else if n = 4 then some 2 else if n = 8 then some 3
  else if n = 12 then some 4 else if n = 16 then some 5 else if n = 32 then some 6 else if n = 48 then some 7
  else none

/-- Kind of a header byte: bits 0 to 2. -/
def headerKind (b : Byte) : BitVec 3 := b.extractLsb' 0 3

/-- Length code of a header byte: bits 3 to 5. -/
def headerLenCode (b : Byte) : BitVec 3 := b.extractLsb' 3 3

/-- The route byte of an outbound record: ack-requested and upper bit clear (R49). -/
def routeByte (r : Fin 16) (seg : Segment) : Byte := BitVec.ofNat 8 (r.val + 16 * seg.bits.toNat)

/-! ## Durations -/

/-- Bit time at a speed (R1). -/
def bitTime : Speed → Nat
  | .sb300 => 10000
  | .ta1200 => 2500

/-- Character time at a speed: 10 bit times (00_scope section 4). -/
def charTime (m : Speed) : Nat := 10 * bitTime m

end Sys2Proof.Machine
end

