-- ==== Sys2Proof/Machine/Flags.lean ====
section
/-!
DEFINITION. Every check bit and status computation of the part: parity and framing of characters (R2, R14), the header check (R24), the CRC (R26), the marker interval (R17), the Causes set and ATTN (R173, R174), the layer (R66), V and the holds (R158, R159), L (R149), and the bands and tones of R1.
-/

namespace Sys2Proof.Machine

/-! ## Characters on the line -/

/-- Exclusive-or of the lowest `n` bits. -/
def parityOf : Nat → Byte → Bool
  | 0, _ => false
  | n + 1, b => parityOf n b ^^ b.getLsbD n

/-- The parity bit sent with a code in a 7-bit format (R2). -/
def parityBit (f : Format) (code : Byte) : Bool :=
  match f with
  | .f8N1 => false
  | .f7E1 => parityOf 7 code
  | .f7O1 => !parityOf 7 code

/-- The ten bits of a character on the line, in their order, true for mark (R2). -/
def frameBits (f : Format) (code : Byte) : List Bool :=
  match f with
  | .f8N1 => false :: (List.range 8).map code.getLsbD ++ [true]
  | .f7E1 | .f7O1 => false :: (List.range 7).map code.getLsbD ++ [parityBit f code, true]

/-- The code of a received character (R2, R14): bit 7 is zero in the 7-bit formats. -/
def receivedCode (f : Format) (data : Byte) : Byte :=
  match f with
  | .f8N1 => data
  | .f7E1 | .f7O1 => data &&& 0x7F

/-- A received character is marked: framing error, or parity error in a 7-bit format (R14). -/
def isMarked (f : Format) (data : Byte) (parity stop : Bool) : Bool :=
  !stop || match f with
    | .f8N1 => false
    | .f7E1 | .f7O1 => parity != parityBit f data

/-- A received character is space throughout (R14): it may be the beginning of a Break. -/
def isAllSpace (f : Format) (data : Byte) (parity stop : Bool) : Bool :=
  !stop && receivedCode f data == 0 && match f with
    | .f8N1 => true
    | .f7E1 | .f7O1 => !parity

/-- The marker code (R17). -/
def markerCode : Byte := 0xC3

/-- The marker's interval lies within 4 percent of seven nominal bit times, inclusive (R17). -/
def intervalOk (m : Speed) (edge : Option Nat) : Bool :=
  match edge with
  | none => false
  | some t => 672 * bitTime m ≤ 100 * t && 100 * t ≤ 728 * bitTime m

/-! ## Header check and CRC -/

/-- Check bits C0 and C1 of a kind and a length code (R24). -/
def checkC0 (kind len : BitVec 3) : Bool := (kind.getLsbD 0 ^^ kind.getLsbD 2) ^^ len.getLsbD 1
def checkC1 (kind len : BitVec 3) : Bool := !((kind.getLsbD 1 ^^ len.getLsbD 0) ^^ len.getLsbD 2)

/-- The header byte passes the header check (R24). -/
def headerOk (b : Byte) : Bool :=
  b.getLsbD 6 == checkC0 (headerKind b) (headerLenCode b) && b.getLsbD 7 == checkC1 (headerKind b) (headerLenCode b)

/-- The header byte of a kind and a length code (R49). -/
def headerByte (kind len : BitVec 3) : Byte :=
  BitVec.ofNat 8 (kind.toNat + 8 * len.toNat + (if checkC0 kind len then 64 else 0) + if checkC1 kind len then 128 else 0)

/-- One bit into the running CRC (R26). -/
def crcBit (crc : BitVec 16) (bit : Bool) : BitVec 16 :=
  let shifted := crc >>> 1
  if bit ^^ crc.getLsbD 0 then shifted ^^^ 0x8408 else shifted

/-- One byte into the running CRC, least significant bit first (R26). -/
def crcByte (crc : BitVec 16) (b : Byte) : BitVec 16 :=
  (List.range 8).foldl (fun c i => crcBit c (b.getLsbD i)) crc

/-- The preset of the running CRC (R21). -/
def crcPreset : BitVec 16 := 0xFFFF

/-- The running CRC after a list of bytes (R26, R49). -/
def crcOf (bs : List Byte) : BitVec 16 := bs.foldl crcByte crcPreset

/-! ## Causes and ATTN -/

/-- The causes, by their bit in the Causes set (section 12.5). -/
inductive Cause
  | keyLost
  | noticeLost
  | jobError
  | lineLost
  | recordError
  | routeOverflow
  | thermalHold
  | supplyHold
  | paperHold
  | sensorFallback
  deriving DecidableEq, Repr

def Cause.bit : Cause → Nat
  | .keyLost => 0
  | .noticeLost => 1
  | .jobError => 2
  | .lineLost => 3
  | .recordError => 4
  | .routeOverflow => 5
  | .thermalHold => 6
  | .supplyHold => 7
  | .paperHold => 8
  | .sensorFallback => 9

/-- The set holding one cause. -/
def Cause.mask (c : Cause) : BitVec 10 := 1#10 <<< c.bit

/-- The ATTN output (R174). -/
def State.attn (s : State) : Bool := !s.crq.isEmpty || s.port.causes &&& ~~~s.port.mask != 0

/-- The Paper Hold is in force (R158). -/
def Monitor.paperHold (m : Monitor) : Bool := !m.paper.value || !m.lid.value

/-- Some print hold is in force (R142). -/
def Monitor.anyHold (m : Monitor) : Bool := m.paperHold || m.supplyHold || m.thermalHold

/-- The causes whose condition lasts (R163). -/
def Monitor.lasting (m : Monitor) : BitVec 10 :=
  (if m.thermalHold then Cause.mask .thermalHold else 0) ||| (if m.supplyHold then Cause.mask .supplyHold else 0)
    ||| (if m.paperHold then Cause.mask .paperHold else 0) ||| (if m.fallback then Cause.mask .sensorFallback else 0)

/-- The averaged supply V (R159). -/
def Monitor.supply (m : Monitor) : Nat := (m.samples.a + m.samples.b + m.samples.c + m.samples.d) / 4

/-- The effective dot limit L (R149). -/
def dotLimitOf (setting v : Nat) (fallback : Bool) : Nat :=
  let halved := if v < 620 then max 16 (setting / 2) else setting
  if fallback then min 64 halved else halved

/-! ## Modifiers -/

/-- A modifier kind is held: some key of the Down Set was admitted as one (R66). -/
def Keyboard.held (k : Keyboard) (m : ModKind) : Bool := k.down.any (fun d => d.modifier == some m)

/-- The layer the Modifier State selects (R66). -/
def Keyboard.layer (k : Keyboard) : Layer :=
  if k.held .function then .function
  else if k.held .control then .control
  else if k.held .shift || k.lock then .shift
  else .plain

/-! ## Bands and tones (R1) -/

/-- The part's own tones are on the line: carrier, lead-in, tail or characters (R1). -/
def Line.ownCarrier (l : Line) : Bool :=
  match l.settings.speed, l.settings.role, l.state with
  | .sb300, .answer, .off => false
  | .sb300, .answer, _ => true
  | .sb300, .originate, .online => true
  | .sb300, .originate, .fade => true
  | .sb300, .originate, _ => false
  | .ta1200, _, .online =>
    match l.direction with
    | some .taking | some .talking | some .releasing => true
    | some .listening | none => false
  | .ta1200, _, _ => false

/-- Mark and space frequencies in Hz of the band the part sends on (R1). -/
def sendBand : Speed → Role → Nat × Nat
  | .sb300, .originate => (1140, 980)
  | .sb300, .answer => (2150, 1990)
  | .ta1200, _ => (1400, 2000)

/-- Mark and space frequencies in Hz of the band the part listens on (R1). -/
def listenBand : Speed → Role → Nat × Nat
  | .sb300, .originate => (2150, 1990)
  | .sb300, .answer => (1140, 980)
  | .ta1200, _ => (1400, 2000)

/-- Characters are received (R14). -/
def Line.receiving (l : Line) : Bool :=
  l.state == .online && (l.settings.speed == .sb300 || l.direction == some .listening)

/-- The transmitter may begin an item (R44, R9). -/
def Line.mayBegin (l : Line) : Bool :=
  l.state == .online && (l.settings.speed == .sb300 || l.direction == some .talking)

/-- A connection exists, so that the flow state moves (R58) and a Break may become pending (R48). -/
def Line.connected (l : Line) : Bool := l.state == .online || l.state == .fade

end Sys2Proof.Machine
end

