-- ==== Sys2Proof/Machine/Ops.lean ====
section
/-!
DEFINITION. The named operations every block shares: replacing one block of the state, the clock, notices and causes, the text queues, the ports, route deliveries, the flow comparison, and the moves of the Head Drive's state under a hold.
-/

namespace Sys2Proof.Machine

/-! ## One update per block -/

def State.setNow (s : State) (x : Nat) : State := { s with now := x }
def State.setChoices (s : State) (x : Nat) : State := { s with choices := x }
def State.setPins (s : State) (x : Pins) : State := { s with pins := x }
def State.setLine (s : State) (x : Line) : State := { s with line := x }
def State.setEngine (s : State) (x : Engine) : State := { s with engine := x }
def State.setTx (s : State) (x : Transmitter) : State := { s with tx := x }
def State.setKeys (s : State) (x : Keyboard) : State := { s with keys := x }
def State.setStore (s : State) (x : Store) : State := { s with store := x }
def State.setRtq (s : State) (x : List TextCell) : State := { s with rtq := x }
def State.setCrq (s : State) (x : List CrqEntry) : State := { s with crq := x }
def State.setArb (s : State) (x : Arbiter) : State := { s with arb := x }
def State.setComp (s : State) (x : Composer) : State := { s with comp := x }
def State.setHead (s : State) (x : Head) : State := { s with head := x }
def State.setMon (s : State) (x : Monitor) : State := { s with mon := x }
def State.setPort (s : State) (x : CtlPort) : State := { s with port := x }
def State.setPending (s : State) (x : List Instr) : State := { s with pending := x }

/-! ## The clock -/

/-- The event takes place at moment `t`, or now if that moment has passed (log 1). -/
def State.reach (s : State) (t : Nat) : State := s.setNow (max s.now t)

/-- A timer started at `start` has run for `d` or longer. -/
def State.elapsed (s : State) (start : Option Nat) (d : Nat) : Bool :=
  match start with
  | none => false
  | some t => t + d ≤ s.now

/-! ## Causes and notices -/

/-- Raise a cause; one already set stays set (11.6). -/
def State.raise (s : State) (c : Cause) : State :=
  s.setPort { s.port with causes := s.port.causes ||| c.mask }

/-- Free entries of the CRQ (R103). -/
def State.crqRoom (s : State) : Nat := Config.crqCap - s.crq.length

/-- Append an entry for which there is room (R103). -/
def State.pushCrq (s : State) (e : CrqEntry) : State := s.setCrq (s.crq ++ [e])

/-- Post a notice; at a full CRQ it is dropped and raises Notice Lost (R104). -/
def State.post (s : State) (n : Notice) : State :=
  if s.crqRoom = 0 then s.raise .noticeLost else s.pushCrq (.notice n)

/-! ## Transmit Text Queue and flow control -/

/-- Free characters of the TTQ (3.2). -/
def State.ttqRoom (s : State) : Nat := Config.ttqCap - s.tx.ttq.length

/-- Append characters for which there is room. -/
def State.pushTtq (s : State) (cs : List Byte) : State := s.setTx { s.tx with ttq := s.tx.ttq ++ cs }

/-- A flow character is on the line (R58: chosen, so not withdrawn). -/
def Progress.isFlow : Progress → Bool
  | .char _ flow _ => flow
  | _ => false

/-- One comparison of the flow state with the RTQ fill (R58), apart from the line state. -/
def nextFlow (cfg : FlowSettings) (chosen : Bool) (fill : Nat) (f : FlowState) : FlowState :=
  match f with
  | .flowing => if cfg.enable && cfg.high ≤ fill then .holdPending else .flowing
  | .holdPending => if !chosen && (!cfg.enable || fill < cfg.high) then .flowing else .holdPending
  | .held => if !cfg.enable || fill ≤ cfg.low then .resumePending else .held
  | .resumePending => if !chosen && cfg.enable && cfg.low < fill then .held else .resumePending

/-- The flow state is compared, in ONLINE and FADE (R58). -/
def State.flowCompare (s : State) : State :=
  if s.line.connected then
    s.setTx { s.tx with flow := nextFlow s.tx.flowSettings s.tx.progress.isFlow s.rtq.length s.tx.flow }
  else s

/-- A Break becomes pending in ONLINE and FADE; elsewhere the request is discarded (R48). -/
def State.requestBreak (s : State) : State :=
  if s.line.connected then s.setTx { s.tx with breakPending := true } else s

/-! ## Receive Text Queue -/

/-- Append cells for which there is room, one change of fill (R95). -/
def State.pushRtq (s : State) (cs : List TextCell) : State := (s.setRtq (s.rtq ++ cs)).flowCompare

/-! ## Routes -/

/-- The entry of a route. -/
def Store.route (st : Store) (r : Fin 16) : Route := st.routes[r]

def Store.setRoute (st : Store) (r : Fin 16) (e : Route) : Store := { st with routes := st.routes.set r e }

/-- A delivery on a route was dropped: its Overflow flag and the Route Overflow cause (R83). -/
def State.routeDrop (s : State) (r : Fin 16) : State :=
  (s.setStore (s.store.setRoute r { s.store.route r with overflow := true })).raise .routeOverflow

/-- Clear every Overflow flag (R83). -/
def Store.clearOverflow (st : Store) : Store :=
  { st with routes := st.routes.map fun e => { e with overflow := false } }

/-- Translation of a code (R74, R98). -/
def Translate.apply (t : Translate) (c : Byte) : Byte :=
  match t with
  | .none => c
  | .upper => if 0x61 ≤ c && c ≤ 0x7A then c - 0x20 else c
  | .sevenBit => c &&& 0x7F

/-! ## Ports -/

/-- Capacity of a port (R110). -/
def portCapacity : PortId → Nat
  | .p0 => 160
  | .p1 => 32
  | .p2 => 96
  | .p3 => 96

def Arbiter.port (a : Arbiter) : PortId → Port
  | .p0 => a.p0
  | .p1 => a.p1
  | .p2 => a.p2
  | .p3 => a.p3

def Arbiter.setPort (a : Arbiter) (p : PortId) (x : Port) : Arbiter :=
  match p with
  | .p0 => { a with p0 := x }
  | .p1 => { a with p1 := x }
  | .p2 => { a with p2 := x }
  | .p3 => { a with p3 := x }

def Arbiter.job (a : Arbiter) : JobPort → JobState
  | .p2 => a.job2
  | .p3 => a.job3

def Arbiter.setJob (a : Arbiter) (p : JobPort) (x : JobState) : Arbiter :=
  match p with
  | .p2 => { a with job2 := x }
  | .p3 => { a with job3 := x }

/-- Free cells of a port. -/
def Arbiter.room (a : Arbiter) (p : PortId) : Nat := portCapacity p - (a.port p).cells.length

/-- Insert cells at the tail, all entering now; they count as admitted (R110, R111). -/
def Port.putCells (x : Port) (now : Nat) (bodies : List CellBody) : Port :=
  { x with cells := x.cells ++ bodies.map (fun b => { body := b, entered := now }), admitted := x.admitted + bodies.length }

/-- Keep `rest` of the cells and count the others as composed (R111, R119). -/
def Port.compose (x : Port) (line rest : List PortCell) : Port :=
  { x with cells := rest, composed := x.composed + line.length }

/-- Keep `rest` of the cells and count the others as discarded (R111). -/
def Port.discard (x : Port) (gone rest : List PortCell) : Port :=
  { x with cells := rest, discarded := x.discarded + gone.length }

/-- Insert cells at the tail of a port of the state. -/
def State.putCells (s : State) (p : PortId) (bodies : List CellBody) : State :=
  s.setArb (s.arb.setPort p ((s.arb.port p).putCells s.now bodies))

/-! ## Delivery to the sinks of a route (R74, R75, R99, R101) -/

/-- Room a route's sinks have for `n` units: Print, Transmit, Controller in this order, each true if the sink is not named or has room. A sequence longer than P1 leaves the Print sink out (R75). -/
def sinkRoom (s : State) (p : PortId) (e : Route) (n : Nat) : Bool × Bool × Bool :=
  (!e.print || n ≤ s.arb.room p, !e.transmit || n ≤ s.ttqRoom, !e.controller || n ≤ s.crqRoom)

/-- The Print sink's part of a delivery: a cell per code, in the route's style (R74, R99). -/
def State.toPrint (s : State) (yes : Bool) (p : PortId) (style : Style) (codes : List Byte) : State :=
  if yes then s.putCells p (codes.map fun c => .char c style) else s

/-- The Transmit sink's part of a delivery (R74, R99). -/
def State.toTransmit (s : State) (yes : Bool) (codes : List Byte) : State := if yes then s.pushTtq codes else s

/-- The Controller sink's part of a delivery: a Character entry per code (R74, R99). -/
def State.toController (s : State) (yes : Bool) (r : Fin 16) (codes : List Byte) (substituted : Bool) : State :=
  if yes then s.setCrq (s.crq ++ codes.map fun c => .character r c substituted) else s

/-- A delivery that some sink did not receive is marked on its route (R75, R83, R101). -/
def State.markDrop (s : State) (dropped : Bool) (r : Fin 16) : State := if dropped then s.routeDrop r else s

/-- Deliver codes to the sinks of a route that have room; a sink without room receives nothing and the drop is marked (R75, R101). -/
def State.deliver (s : State) (p : PortId) (r : Fin 16) (codes : List Byte) (substituted : Bool) : State :=
  let e := s.store.route r
  let room := sinkRoom s p e codes.length
  (((s.toPrint (e.print && room.1) p e.style codes).toTransmit (e.transmit && room.2.1) codes).toController
    (e.controller && room.2.2) r codes substituted).markDrop (!(room.1 && room.2.1 && room.2.2)) r

/-! ## State of the Head Drive -/

/-- Move the Head Drive's state. When it leaves IDLE a supply sample is due at that moment, and in Doze a thermistor reading, unless it has been taken at that moment already (R159, R161; log 18). -/
def State.moveHead (s : State) (x : HeadState) : State :=
  let leaves := s.head.state == .idle && x != .idle
  (s.setHead { s.head with state := x }).setMon
    { s.mon with supplyOwed := s.mon.supplyOwed || (leaves && s.mon.lastSupply != s.now)
                 thermOwed := s.mon.thermOwed || (leaves && s.mon.power == .doze && s.mon.lastTherm != s.now) }

/-- A change of the holds moves the Head Drive between IDLE, HOLD and SETTLE (R153, R154). -/
def State.syncHolds (s : State) : State :=
  if s.mon.anyHold then
    match s.head.state with
    | .idle => s.moveHead .hold
    | .settle => (s.setHead { s.head with settle := none }).moveHead .hold
    | .hold | .firing | .advancing => s
  else
    match s.head.state with
    | .hold => (s.setHead { s.head with settle := some s.now }).moveHead .settle
    | .idle | .settle | .firing | .advancing => s

/-- Recompute the effective dot limit (R149). -/
def State.recomputeLimit (s : State) : State :=
  s.setHead { s.head with limit := dotLimitOf s.head.dotLimit s.mon.supply s.mon.fallback }

end Sys2Proof.Machine
end

