-- ==== Sys2Proof/Machine/Compose.lean ====
section
/-!
DEFINITION. Text lines and what they print: the Arbiter's walk (R116), glyphs and styles (R131, R132), the placing of cells (R134), the band and its rows (R135, R136).
-/

namespace Sys2Proof.Machine

/-! ## Codes (00_scope section 4, R131) -/

def codeBS : Byte := 0x08
def codeHT : Byte := 0x09
def codeLF : Byte := 0x0A
def codeFF : Byte := 0x0C
def codeCR : Byte := 0x0D

/-- A printed code takes one character position (R131). -/
def isPrinted (c : Byte) : Bool := 0x20 ≤ c.toNat

/-- LF, FF, and CR while CR Mode is NewLine, end a line (R116). -/
def isTerminator (cr : CrMode) (c : Byte) : Bool :=
  c == codeLF || c == codeFF || (c == codeCR && cr == .newLine)

/-- Width of a printed cell in dots (R132). -/
def styleWidth : Style → Nat
  | .wide => 24
  | .normal | .tall | .inverse => 12

/-- The next multiple of 96 above a position (R116, R134). -/
def tabStop (pos : Nat) : Nat := (pos / 96 + 1) * 96

/-! ## The text line of a port (R116) -/

/-- The walk: position, advances of the characters not removed by BS (newest first), cells passed (newest first), cells ahead. The complete line and what stays in the port, or nothing when the walk reaches the tail. -/
def walkLine (cr : CrMode) (pos : Nat) (advances : List Nat) (passed : List PortCell) :
    List PortCell → Option (List PortCell × List PortCell)
  | [] => none
  | c :: rest =>
    match c.body with
    | .jobStart => if passed.isEmpty then some ([c], rest) else some (passed.reverse, c :: rest)
    | .jobEnd => some ((c :: passed).reverse, rest)
    | .char code style =>
      if isPrinted code then
        if Config.paperWidth < pos + styleWidth style then some (passed.reverse, c :: rest)
        else walkLine cr (pos + styleWidth style) (styleWidth style :: advances) (c :: passed) rest
      else if isTerminator cr code then some ((c :: passed).reverse, rest)
      else if code = codeHT then
        if Config.paperWidth < tabStop pos then some ((c :: passed).reverse, rest)
        else walkLine cr (tabStop pos) advances (c :: passed) rest
      else if code = codeBS then walkLine cr (pos - advances.headD 0) advances.tail (c :: passed) rest
      else walkLine cr pos advances (c :: passed) rest

/-- The complete line of a port, if it holds one (R116). -/
def completeLine (cr : CrMode) (cells : List PortCell) : Option (List PortCell × List PortCell) :=
  walkLine cr 0 [] [] cells

/-- The port's head cell has been there for the Partial Line Timeout (R117). -/
def agedHead (now timeoutMs : Nat) : List PortCell → Bool
  | [] => false
  | c :: _ => c.entered + timeoutMs * Config.unitsPerMs ≤ now

/-- The text line an eligible port would be granted and what stays (R116, R117); nothing when it is not eligible. -/
def grantLine (cr : CrMode) (now timeoutMs : Nat) (cells : List PortCell) : Option (List PortCell × List PortCell) :=
  match completeLine cr cells with
  | some l => some l
  | none => if agedHead now timeoutMs cells then some (cells, []) else none

/-- Text line of a port of the state, if it is eligible (R117). -/
def State.textLine (s : State) (p : PortId) : Option (List PortCell × List PortCell) :=
  grantLine s.comp.settings.crMode s.now s.arb.settings.partialMs (s.arb.port p).cells

/-- The port is eligible (R117). -/
def State.eligible (s : State) (p : PortId) : Bool := (s.textLine p).isSome

/-! ## Patterns (R131, R132) -/

/-- A dot of a pattern (section 12.3). -/
def Pattern.dot (p : Pattern) (column row : Nat) : Bool := p.getLsbD (16 * column + row)

/-- Dot of the substitution box (R131). -/
def boxDot (column row : Nat) : Bool :=
  ((row == 1 || row == 14) && (1 ≤ column && column ≤ 10)) || ((column == 1 || column == 10) && (2 ≤ row && row ≤ 13))

/-- The substitution box as a pattern (R131). -/
def substitutionBox : Pattern :=
  (List.range 192).foldl (fun acc i => if boxDot (i / 16) (i % 16) then acc ||| (1#192 <<< i) else acc) 0

/-- The pattern printed for a printed code (R131). The fixed glyph of 20h is all white; the others are free (log 6). -/
def patternOf (st : Store) (code : Byte) : Pattern :=
  if code = 0x20 then 0
  else if code.toNat ≤ 0x7E then Config.fixedGlyph code
  else if code.toNat ≤ 0x9F then substitutionBox
  else if code.toNat ≤ 0xBF then
    let g := (st.glyphs[(code.toNat - 0xA0)]?).getD {}
    if g.valid then g.pattern else substitutionBox
  else Config.fixedGlyph code

/-- The twelve dots of a pattern row as a number, column c in bit c. -/
def patternRow (p : Pattern) (row : Nat) : Nat :=
  (List.range 12).foldl (fun acc c => acc + if Pattern.dot p c row then 2 ^ c else 0) 0

/-- The twelve dots of a pattern row, each drawn twice (R132, Wide). -/
def patternRowWide (p : Pattern) (row : Nat) : Nat :=
  (List.range 12).foldl (fun acc c => acc + if Pattern.dot p c row then 3 * 4 ^ c else 0) 0

/-! ## Placing the cells (R134) -/

/-- A placed cell of the line. -/
structure Placed where
  left : Nat
  style : Style
  pattern : Pattern
  deriving DecidableEq, Repr

/-- One cell of the line: the pen and the placed cells, newest first (R134). -/
def placeCell (st : Store) (acc : Nat × List Placed) (c : PortCell) : Nat × List Placed :=
  match c.body with
  | .jobStart | .jobEnd => acc
  | .char code style =>
    if isPrinted code then
      (acc.1 + styleWidth style, { left := acc.1, style := style, pattern := patternOf st code } :: acc.2)
    else if code = codeBS then
      match acc.2 with
      | [] => acc
      | last :: before => (acc.1 - styleWidth last.style, before)
    else if code = codeHT then
      if Config.paperWidth < tabStop acc.1 then acc else (tabStop acc.1, acc.2)
    else acc

/-- The placed cells of a line, newest first (R134). -/
def placeLine (st : Store) (line : List PortCell) : List Placed := (line.foldl (placeCell st) (0, [])).2

/-! ## The band (R135) -/

/-- Band height (R135). -/
def bandHeight (placed : List Placed) : Nat := if placed.any (fun c => c.style == .tall) then 32 else 16

/-- The dots of a placed cell in a band row, from its left dot (R132, R135). -/
def cellRow (height band : Nat) (c : Placed) : Nat :=
  match c.style with
  | .tall => patternRow c.pattern (band / 2)
  | .normal => if band + 16 < height then 0 else patternRow c.pattern (band + 16 - height)
  | .wide => if band + 16 < height then 0 else patternRowWide c.pattern (band + 16 - height)
  | .inverse => if band + 16 < height then 0 else 0xFFF - patternRow c.pattern (band + 16 - height)

/-- Band row `band` of 384 dots (R135). -/
def bandRow (placed : List Placed) (band : Nat) : DotRow :=
  placed.foldl (fun acc c => acc ||| (BitVec.ofNat 384 (cellRow (bandHeight placed) band c) <<< c.left)) 0

/-! ## Row Queue entries of a line (R136) -/

/-- A run of white rows as Feed Runs (R136). -/
def feedRuns (w : Nat) : List RowEntry :=
  List.replicate (w / 255) (.feed 255) ++ if w % 255 = 0 then [] else [.feed (w % 255)]

/-- Rows as entries: `run` white rows stand before the list (R136). -/
def rowEntries (run : Nat) : List DotRow → List RowEntry
  | [] => feedRuns run
  | r :: rest => if r = 0 then rowEntries (run + 1) rest else feedRuns run ++ .dots r :: rowEntries 0 rest

def PortCell.isMark (c : PortCell) : Bool :=
  match c.body with
  | .char _ _ => false
  | .jobStart | .jobEnd => true

/-- The line's terminator is FF (R136). -/
def endsWithFF (line : List PortCell) : Bool :=
  match line.getLast? with
  | some c => match c.body with
    | .char code _ => code == codeFF
    | .jobStart | .jobEnd => false
  | none => false

/-- The rows of a line: its band, the Line Gap, and after FF the Tear Distance (R136). -/
def lineRows (st : Store) (cfg : ComposerSettings) (line : List PortCell) : List DotRow :=
  let placed := placeLine st line
  (List.range (bandHeight placed)).map (bandRow placed)
    ++ List.replicate (cfg.lineGap + if endsWithFF line then cfg.tear else 0) 0

/-- The entries of a line, in order; a line of marks alone has none (R133, R136). -/
def lineEntries (st : Store) (cfg : ComposerSettings) (line : List PortCell) : List RowEntry :=
  if line.all PortCell.isMark then [] else rowEntries 0 (lineRows st cfg line)

/-- The line holds a mark. -/
def holdsMark (m : CellBody) (line : List PortCell) : Bool := line.any (fun c => c.body == m)

end Sys2Proof.Machine
end

