-- ==== Sys2Proof/Machine/Print.lean ====
section
/-!
DEFINITION. The Print Arbiter and the appending of the Line Composer: admission (R113, R114), jobs, cancel and stall (R121 to R124), Missing-Last handling (R126), grant and Job Hold (R118 to R120), and the finish of a line (R138).
-/

namespace Sys2Proof.Machine

/-! ## Segment admission (R113) -/

/-- What admission does with a segment (R113, last column). -/
inductive Admission
  | admitted
  | missingFirst
  | missingLast
  | quiet
  deriving DecidableEq, Repr

/-- The row of R113's table: outcome and job state after. -/
def admission : JobState → Segment → Admission × JobState
  | .none, .whole => (.admitted, .none)
  | .none, .first => (.admitted, .opened)
  | .none, .middle => (.missingFirst, .discarding)
  | .none, .last => (.missingFirst, .none)
  | .opened, .whole => (.missingLast, .none)
  | .opened, .first => (.missingLast, .opened)
  | .opened, .middle => (.admitted, .opened)
  | .opened, .last => (.admitted, .none)
  | .discarding, .whole => (.admitted, .none)
  | .discarding, .first => (.admitted, .opened)
  | .discarding, .middle => (.quiet, .discarding)
  | .discarding, .last => (.quiet, .none)

/-- The cells of R113's table, in order. -/
def admissionCells (j : JobState) (seg : Segment) (style : Style) (codes : List Byte) : List CellBody :=
  let chars := codes.map fun c => CellBody.char c style
  match (admission j seg).1 with
  | .missingFirst | .quiet => []
  | .missingLast => if seg = .whole then .jobEnd :: .jobStart :: chars ++ [.jobEnd] else .jobEnd :: .jobStart :: chars
  | .admitted =>
    match seg with
    | .whole => .jobStart :: chars ++ [.jobEnd]
    | .first => .jobStart :: chars
    | .middle => chars
    | .last => chars ++ [.jobEnd]

/-- There is room for the segment (R113). -/
def State.segmentFits (s : State) (p : JobPort) (seg : Segment) (style : Style) (codes : List Byte) : Bool :=
  (admissionCells (s.arb.job p) seg style codes).length ≤ s.arb.room p.toPort

/-- The notice and the cause of an admission (R114). -/
def State.admissionNotice (s : State) (p : JobPort) (a : Admission) : State :=
  match a with
  | .admitted | .quiet => s
  | .missingFirst => (s.post (.jobEvent p .missingFirst)).raise .jobError
  | .missingLast => (s.post (.jobEvent p .missingLast)).raise .jobError

/-- Admission of a segment that has room (R113, R114). -/
def State.admitSegment (s : State) (p : JobPort) (seg : Segment) (style : Style) (codes : List Byte) : State :=
  let row := admission (s.arb.job p) seg
  let s1 := s.putCells p.toPort (admissionCells (s.arb.job p) seg style codes)
  (s1.setArb (s1.arb.setJob p row.2)).admissionNotice p row.1

/-! ## Jobs -/

/-- The Composer holds a line of the port with a JobEnd: the port's granted job is closing (R112). -/
def State.closing (s : State) (p : JobPort) : Bool :=
  match s.comp.line with
  | some l => l.port == p.toPort && l.jobEnd
  | none => false

/-- The cells of the job at the head, its JobStart already passed: up to and with its JobEnd, else up to the next JobStart, else all (R123). -/
def jobSpan : List PortCell → List PortCell × List PortCell
  | [] => ([], [])
  | c :: rest =>
    match c.body with
    | .jobStart => ([], c :: rest)
    | .jobEnd => ([c], rest)
    | .char _ _ => (c :: (jobSpan rest).1, (jobSpan rest).2)

/-- The port's oldest live job: the cells it has in the queue, the cells behind it, and whether it holds the path (R112, R122). -/
def State.oldestJob (s : State) (p : JobPort) : Option (List PortCell × List PortCell × Bool) :=
  let cells := (s.arb.port p.toPort).cells
  if s.arb.hold = some p && !s.closing p then some ((jobSpan cells).1, (jobSpan cells).2, true)
  else match cells with
    | c :: rest => if c.body = .jobStart then some (c :: (jobSpan rest).1, (jobSpan rest).2, false) else none
    | [] => none

/-- Take a job's cells out of its port; they count as discarded (R111, R123). -/
def State.removeCells (s : State) (p : JobPort) (gone rest : List PortCell) : State :=
  s.setArb (s.arb.setPort p.toPort ((s.arb.port p.toPort).discard gone rest))

/-- Release the Job Hold; the stall timer is discarded with it (R120, R123). -/
def State.releaseHold (s : State) : State := s.setArb { s.arb with hold := none, stall := none }

/-- Cancel the oldest live job of a port, if there is one (R123). The job's Last is still to come when no JobEnd of it is in the queue (log 15). -/
def State.cancelJob (s : State) (p : JobPort) : State :=
  match s.oldestJob p with
  | none => s
  | some (gone, rest, holds) =>
    let s1 := s.removeCells p gone rest
    let s2 := if holds then s1.releaseHold else s1
    let s3 := if !holdsMark .jobStart rest && !holdsMark .jobEnd gone then s2.setArb (s2.arb.setJob p .discarding) else s2
    s3.post (.jobEvent p .cancelled)

/-- The Cancel Print key action: the holding port's job, unless it is closing (R67, R122). -/
def State.cancelKey (s : State) : State :=
  match s.arb.hold with
  | none => s
  | some p => if s.closing p then s else s.cancelJob p

/-- The holding job stalls (R121). -/
def State.stallJob (s : State) (p : JobPort) : State :=
  let cells := (s.arb.port p.toPort).cells
  let s1 := (s.removeCells p (jobSpan cells).1 (jobSpan cells).2).releaseHold
  ((s1.setArb (s1.arb.setJob p .discarding)).post (.jobEvent p .stalled)).raise .jobError

/-- Missing-Last handling of P3 (R126). -/
def State.missingLast (s : State) : State :=
  if s.arb.job3 = .opened then
    let s1 :=
      if s.arb.room .p3 = 0 then s.setArb { s.arb with job3 := .discarding }
      else
        let s0 := s.putCells .p3 [.jobEnd]
        s0.setArb { s0.arb with job3 := .none }
    (s1.post (.jobEvent .p3 .missingLast)).raise .jobError
  else s

/-! ## Stall timer (R121) -/

/-- The Head Drive is in HOLD or SETTLE, where the stall timer does not run (R154). -/
def HeadState.stopped (x : HeadState) : Bool := x == .hold || x == .settle

/-- The stall timer runs: the five conditions of R121, and the Head Drive neither in HOLD nor in SETTLE (R154; log 31). -/
def State.stallRuns (s : State) : Bool :=
  match s.arb.hold with
  | none => false
  | some p => s.comp.line.isNone && !s.arb.pause && !s.mon.anyHold && !s.head.state.stopped && !s.eligible p.toPort

/-- Start the stall timer when its conditions have become true, discard it when one has ceased (R121, R154). -/
def State.watchStall (s : State) : State :=
  if s.stallRuns then
    if s.arb.stall.isSome then s else s.setArb { s.arb with stall := some s.now }
  else
    if s.arb.stall.isSome then s.setArb { s.arb with stall := none } else s

/-- The stall timer has reached the Job Stall Timeout (R121, R128). -/
def State.stallDue (s : State) : Bool := s.elapsed s.arb.stall (s.arb.settings.stallS * 1000 * Config.unitsPerMs)

/-! ## Grant (R118 to R120) -/

/-- The cyclic order of the ports after the last granted one (R118). -/
def cyclicAfter : PortId → List PortId
  | .p0 => [.p1, .p2, .p3, .p0]
  | .p1 => [.p2, .p3, .p0, .p1]
  | .p2 => [.p3, .p0, .p1, .p2]
  | .p3 => [.p0, .p1, .p2, .p3]

def ArbiterSettings.priority (c : ArbiterSettings) : PortId → Nat
  | .p0 => c.prio0
  | .p1 => c.prio1
  | .p2 => c.prio2
  | .p3 => c.prio3

/-- A port is grantable (R118). -/
def State.grantable (s : State) (p : PortId) : Bool :=
  s.eligible p && match s.arb.hold with
    | none => true
    | some h => h.toPort == p

/-- The first port of highest priority in a list (R118). -/
def bestPort (c : ArbiterSettings) : List PortId → Option PortId
  | [] => none
  | p :: rest =>
    match bestPort c rest with
    | none => some p
    | some q => if c.priority p < c.priority q then some q else some p

/-- The port to be granted now, if the Arbiter grants (R118). -/
def State.grantChoice (s : State) : Option PortId :=
  if s.comp.line.isNone && !s.arb.pause then
    bestPort s.arb.settings ((cyclicAfter s.arb.lastGranted).filter s.grantable)
  else none

/-- A port of print jobs. -/
def jobOf? : PortId → Option JobPort
  | .p2 => some .p2
  | .p3 => some .p3
  | .p0 | .p1 => none

/-- Grant the text line of a port: its cells leave as composed, the Composer takes the line (R119, R133), and a JobStart engages the Job Hold (R120). -/
def State.grant (s : State) (p : PortId) : State :=
  match s.textLine p with
  | none => s
  | some (line, rest) =>
    let arb := s.arb.setPort p ((s.arb.port p).compose line rest)
    let hold := if holdsMark .jobStart line then (jobOf? p).orElse (fun _ => s.arb.hold) else s.arb.hold
    (s.setArb { arb with hold := hold, lastGranted := p }).setComp
      { s.comp with line := some { port := p, entries := lineEntries s.store s.comp.settings line
                                   jobEnd := holdsMark .jobEnd line } }

/-! ## Composer (R137, R138) -/

/-- The Composer's next entry can be appended: the Row Queue has a free place (R138). -/
def Composer.canAppend (c : Composer) : Bool :=
  match c.line with
  | some l => !l.entries.isEmpty && c.rows.length < Config.rowCap
  | none => false

/-- The line's last entry has been appended (R138). -/
def Composer.canFinish (c : Composer) : Bool :=
  match c.line with
  | some l => l.entries.isEmpty
  | none => false

/-- Append the line's next entry (R138). -/
def Composer.append (c : Composer) : Composer :=
  match c.line with
  | some l => { c with line := some { l with entries := l.entries.tail }, rows := c.rows ++ l.entries.take 1 }
  | none => c

/-- The Composer finishes its line: grant state none, and a JobEnd releases its port's Hold and posts complete (R119, R120, R138). -/
def State.finishLine (s : State) : State :=
  match s.comp.line with
  | none => s
  | some l =>
    let s1 := s.setComp { s.comp with line := none }
    match l.jobEnd, jobOf? l.port with
    | true, some p => (if s1.arb.hold = some p then s1.releaseHold else s1).post (.jobEvent p .complete)
    | _, _ => s1

/-! ## Print unit reset (R130, R141) -/

/-- Discard every cell of a port (R130). -/
def Port.empty (x : Port) : Port := x.discard x.cells []

/-- The Arbiter's and the Composer's part of RESET UNIT Print (R130, R141). -/
def State.resetPrintPath (s : State) : State :=
  (s.setArb { s.arb with p0 := s.arb.p0.empty, p1 := s.arb.p1.empty, p2 := s.arb.p2.empty, p3 := s.arb.p3.empty
                         job2 := .none, job3 := .none, hold := none, pause := false, stall := none }).setComp
    { s.comp with line := none, rows := [] }

end Sys2Proof.Machine
end

