-- ==== Sys2Proof/Machine/Energy.lean ====
section
/-!
DEFINITION. The energy of a dot row and the Head Drive: the five stages of the strobe widths (R143 to R146), cold dots and strobe times (R147, R148), phases (R150, R151), the start and the end of a row (R142, R152 to R154, R157).
-/

namespace Sys2Proof.Machine

/-! ## Strobe widths -/

/-- Curve point `i` of the Energy Settings (5.5). -/
def Store.curve (st : Store) (i : Nat) : Nat := (st.energy[i]?).getD 0

/-- Temperature width W_T (R143). -/
def temperatureWidth (st : Store) (t : Int) : Nat :=
  if t < -10 then st.curve 0
  else if 60 ≤ t then st.curve 7
  else
    let up := (t + 10).toNat
    let i := up / 10
    let d := up % 10
    (st.curve i * (10 - d) + st.curve (i + 1) * d) / 10

/-- Fallback width of a Darkness (R144). -/
def fallbackWidth (d : Nat) : Nat := 600 + 80 * d

/-- Darkness (5.5, index 8). -/
def Store.darkness (st : Store) : Nat := st.energy[8]

/-- History Coefficient (5.5, index 9). -/
def Store.historyCoefficient (st : Store) : Nat := st.energy[9]

/-- Group Calibration (5.5, indexes 10 to 15). -/
def Store.calibration (st : Store) (g : Fin 6) : Nat := st.energy[10 + g.val]

/-- Darkness width W_D, or the fallback width while Sensor Fallback is in force (R144). -/
def darknessWidth (st : Store) (t : Int) (fallback : Bool) : Nat :=
  if fallback then fallbackWidth st.darkness else temperatureWidth st t * (12 + st.darkness) / 16

/-- Voltage width W_V (R145). -/
def voltageWidth (wd v : Nat) : Nat :=
  let c := clamp 560 860 v
  wd * 518400 / (c * c)

/-- Cold width of a group before the clamp (R146). -/
def coldRaw (st : Store) (wv : Nat) (g : Fin 6) : Nat := wv * (64 - st.calibration g) / 64

/-- Cold width of a group (R146). -/
def coldWidth (st : Store) (wv : Nat) (g : Fin 6) : Nat := clamp 150 2000 (coldRaw st wv g)

/-- Hot width of a group (R146). -/
def hotWidth (st : Store) (wv : Nat) (g : Fin 6) : Nat :=
  clamp 150 2000 (coldRaw st wv g * (64 - st.historyCoefficient) / 64)

/-! ## Dots and groups -/

/-- The 64 dots of a group (00_scope section 4). -/
def groupDots (row : DotRow) (g : Fin 6) : BitVec 64 := row.extractLsb' (64 * g.val) 64

/-- The number of black dots among 64. -/
def blackCount (d : BitVec 64) : Nat := (List.range 64).foldl (fun n i => n + if d.getLsbD i then 1 else 0) 0

/-- The cold dots of a group: black in the row and white in the history (R147). -/
def coldDots (row history : DotRow) (g : Fin 6) : BitVec 64 := groupDots (row &&& ~~~history) g

/-- The firing of a group of a dot row (R146, R148). -/
def groupFire (st : Store) (wv : Nat) (row history : DotRow) (g : Fin 6) : GroupFire :=
  { group := g
    black := blackCount (groupDots row g)
    dots := groupDots row g
    coldDots := coldDots row history g
    cold := coldWidth st wv g
    hot := hotWidth st wv g
    strobe := if coldDots row history g != 0 then coldWidth st wv g else hotWidth st wv g }

/-- The groups that have black dots, in ascending order (R148). -/
def firingGroups (st : Store) (wv : Nat) (row history : DotRow) : List GroupFire :=
  ((List.finRange 6).map (groupFire st wv row history)).filter fun f => 0 < f.black

/-- How long a dot of a firing group is on, in µs from the start of its phase: a cold dot for the cold width, a hot one for the hot width, a white one not at all (R148). -/
def GroupFire.onTime (f : GroupFire) (dot : Fin 64) : Nat :=
  if f.coldDots.getLsbD dot then f.cold else if f.dots.getLsbD dot then f.hot else 0

/-! ## Phases -/

/-- The black dots of a list of groups. -/
def blackOf (fs : List GroupFire) : Nat := (fs.map GroupFire.black).sum

/-- The packing of R150: the current phase, then the groups ahead; the phases in the order they close. -/
def packGroups (limit : Nat) (current : List GroupFire) : List GroupFire → List (List GroupFire)
  | [] => if current.isEmpty then [] else [current]
  | f :: rest =>
    if limit < f.black then
      (if current.isEmpty then [[f]] else [current, [f]]) ++ packGroups limit [] rest
    else if blackOf current + f.black ≤ limit then packGroups limit (current ++ [f]) rest
    else current :: packGroups limit [f] rest

/-- A phase: its longest strobe time plus the recovery gap (R151). -/
def mkPhase (fs : List GroupFire) : Phase :=
  { groups := fs, duration := (fs.map GroupFire.strobe).foldl max 0 + Config.recoveryGap }

/-- Minimum Row Period of a Speed, in µs (R151). -/
def minimumPeriod (speed : Fin 4) : Nat :=
  if speed = 0 then 2500 else if speed = 1 then 3750 else if speed = 2 then 5000 else 7500

/-- The phases of a dot row (R142 to R151). -/
def rowPhases (st : Store) (t : Int) (fallback : Bool) (v limit : Nat) (row history : DotRow) : List Phase :=
  (packGroups limit [] (firingGroups st (voltageWidth (darknessWidth st t fallback) v) row history)).map mkPhase

/-- Row period in µs (R151). -/
def rowPeriod (speed : Fin 4) (phases : List Phase) : Nat :=
  max (phases.map Phase.duration).sum (minimumPeriod speed)

/-- The phase that fires now, with the moment of its start (R151). -/
def Head.firingPhase (h : Head) : Option (Phase × Nat) :=
  match h.state, h.row with
  | .firing, some r => r.phases.head?.map fun ph => (ph, r.phaseEnd - ph.duration * Config.unitsPerUs)
  | _, _ => none

/-- A dot of the head is heated now: its group fires in the present phase, and its on time is not over (R148, R151). -/
def State.dotOn (s : State) (dot : Fin 384) : Bool :=
  match s.head.firingPhase with
  | none => false
  | some (ph, start) => ph.groups.any fun f =>
      f.group.val == dot.val / 64 && s.now < start + f.onTime ⟨dot.val % 64, by omega⟩ * Config.unitsPerUs

/-! ## Starting a row (R142) -/

/-- There is a row to print (R142). -/
def State.headWork (s : State) : Bool :=
  (match s.head.inHand with
    | .feed n => 0 < n
    | .none | .dots _ => false) || !s.comp.rows.isEmpty

/-- History against which a dot row is compared: white after an idle time of more than 100 ms (R147). -/
def State.rowHistory (s : State) : DotRow :=
  match s.head.idleSince with
  | some t => if t + Config.historyLife < s.now then 0 else s.head.history
  | none => s.head.history

/-- Start a white row of a Feed Run with `n` rows still to advance (R152). -/
def State.startFeedRow (s : State) (n : Nat) : State :=
  let ends := s.now + minimumPeriod s.head.speed * Config.unitsPerUs
  (s.setHead { s.head with inHand := .feed n, row := some { phases := [], phaseEnd := s.now, periodEnd := ends }
                           steps := s.head.steps + 1 }).moveHead .advancing

/-- Start a dot row (R142 to R151). -/
def State.startDotRow (s : State) (row : DotRow) : State :=
  let phases := rowPhases s.store s.mon.temp s.mon.fallback s.mon.supply s.head.limit row s.rowHistory
  let first := (phases.head?.map Phase.duration).getD 0
  (s.setHead { s.head with inHand := .dots row, history := s.rowHistory, idleSince := none
                           row := some { phases := phases, phaseEnd := s.now + first * Config.unitsPerUs
                                         periodEnd := s.now + rowPeriod s.head.speed phases * Config.unitsPerUs }
                           steps := s.head.steps + 1 }).moveHead (if phases.isEmpty then .advancing else .firing)

/-- Start the next row: a row of the Feed Run in hand, or the head entry of the Row Queue (R142). -/
def State.startRow (s : State) : State :=
  match s.head.inHand, s.comp.rows with
  | .feed (n + 1), _ => s.startFeedRow (n + 1)
  | _, .feed n :: rest => (s.setComp { s.comp with rows := rest }).startFeedRow n
  | _, .dots row :: rest => (s.setComp { s.comp with rows := rest }).startDotRow row
  | _, [] => s

/-- What the Head Drive does when a row has ended or the settle time is over (R153). -/
def State.nextRow (s : State) : State :=
  if s.mon.anyHold then s.moveHead .hold
  else if s.headWork then s.startRow
  else s.moveHead .idle

/-! ## Ending a row (R147, R152, R157) -/

/-- The Head Drive at the end of a row period, before its next state. -/
def Head.rowEnded (h : Head) (now : Nat) : Head :=
  if h.clearAtEnd then { h with inHand := .none, row := none, history := 0, idleSince := none, clearAtEnd := false }
  else match h.inHand with
    | .dots row => { h with inHand := .none, row := none, history := row, idleSince := some now }
    | .feed n => { h with inHand := if n ≤ 1 then .none else .feed (n - 1), row := none, history := 0 }
    | .none => { h with row := none }

/-- The row period ends (R153). Where a print reset came during the row and rows have been composed since, the next row starts here without IDLE between, by R153 and not by the IDLE of R157, so that no sample of leaving IDLE is owed: DESIGN CHOICE (log 36). -/
def State.endRow (s : State) : State := (s.setHead (s.head.rowEnded s.now)).nextRow

/-- The Head Drive under a print unit reset (R157). -/
def State.resetHead (s : State) : State :=
  match s.head.state with
  | .firing => s.setHead { s.head with clearAtEnd := true }
  | .advancing =>
    s.setHead { s.head with clearAtEnd := true
                            inHand := match s.head.inHand with
                              | .feed _ => .feed 1
                              | .none => .none
                              | .dots row => .dots row }
  | .idle | .hold | .settle => s.setHead { s.head with inHand := .none, history := 0, idleSince := none }

end Sys2Proof.Machine
end

