-- ==== Sys2Proof/Machine/Sensing.lean ====
section
/-!
DEFINITION. The Supply and Sensor Monitor: sensor states (R158), supply samples (R159, R160), thermistor readings (R161, R162), the wake from Doze (R166), and the readings of power-on (R167, R157).
-/

namespace Sys2Proof.Machine

/-! ## Sensors (R158) -/

def Monitor.sensed (m : Monitor) : Sensor → Sensed
  | .paper => m.paper
  | .lid => m.lid

def Monitor.setSensed (m : Monitor) (i : Sensor) (x : Sensed) : Monitor :=
  match i with
  | .paper => { m with paper := x }
  | .lid => { m with lid := x }

def Pins.level (p : Pins) : Sensor → Bool
  | .paper => p.paper
  | .lid => p.lid

def Pins.setLevel (p : Pins) (i : Sensor) (x : Bool) : Pins :=
  match i with
  | .paper => { p with paper := x }
  | .lid => { p with lid := x }

/-- An input has a new level: its stability timer starts, runs on, or is discarded (R158). -/
def State.inputChange (s : State) (i : Sensor) (level : Bool) : State :=
  let x := s.mon.sensed i
  let timer := if level = x.value then none else if x.stable.isSome then x.stable else some s.now
  (s.setPins (s.pins.setLevel i level)).setMon (s.mon.setSensed i { x with stable := timer })

/-- Raise a hold's cause when the hold has just been raised (R163). -/
def State.raiseIf (s : State) (arises : Bool) (c : Cause) : State := if arises then s.raise c else s

/-- The sensed state takes the input's level; the Paper Hold follows (R158, R163). -/
def State.inputStable (s : State) (i : Sensor) : State :=
  let before := s.mon.paperHold
  let s1 := s.setMon (s.mon.setSensed i { value := s.pins.level i, stable := none })
  (s1.raiseIf (!before && s1.mon.paperHold) .paperHold).syncHolds

/-! ## Supply (R159, R160) -/

/-- The supply sample interval of the present states (R159). -/
def State.supplyInterval (s : State) : Nat :=
  match s.head.state, s.mon.power with
  | .idle, .run => Config.supplyIdleRun
  | .idle, .doze => Config.supplyIdleDoze
  | _, _ => Config.supplyWorking

/-- Moment of the next supply sample (R159). -/
def State.supplyDue (s : State) : Nat :=
  if s.mon.supplyOwed then s.now else s.mon.lastSupply + s.supplyInterval

/-- The Supply Hold after a comparison with V (R160). -/
def supplyHoldAfter (hold : Bool) (v : Nat) : Bool := if hold then v < 590 else v < 560

/-- Take the level of the Supply Sense pin as a sample: V, the Supply Hold and L follow (R159, R160, R149). Where the hold it raises moves the Head Drive out of IDLE, this is the sample of that moment. -/
def State.sampleSupply (s : State) : State :=
  let m := s.mon
  let samples := { a := m.samples.b, b := m.samples.c, c := m.samples.d, d := s.pins.supply.toNat : Samples }
  let m1 := { m with samples := samples, lastSupply := s.now, supplyOwed := false }
  let s1 := s.setMon { m1 with supplyHold := supplyHoldAfter m.supplyHold m1.supply }
  ((s1.raiseIf (!m.supplyHold && s1.mon.supplyHold) .supplyHold).syncHolds).recomputeLimit

/-! ## Head temperature (R161, R162) -/

/-- A thermistor reading is valid (R161). -/
def validReading (r : Int) : Bool := -30 ≤ r && r ≤ 100

/-- The Thermal Hold after a comparison of T with the OT Limit (R162). -/
def thermalHoldAfter (hold : Bool) (t : Int) (limit : Nat) : Bool :=
  if hold then !(t ≤ (limit : Int) - 8) else (limit : Int) < t

/-- Compare T with the OT Limit (R162). -/
def State.compareThermal (s : State) : State :=
  let hold := thermalHoldAfter s.mon.thermalHold s.mon.temp s.mon.otLimit
  ((s.setMon { s.mon with thermalHold := hold }).raiseIf (!s.mon.thermalHold && hold) .thermalHold).syncHolds

/-- Thermistor readings are taken: in Run, and in Doze while the Head Drive is not IDLE (R161). -/
def State.thermRuns (s : State) : Bool := s.mon.power == .run || s.head.state != .idle

/-- Moment of the next thermistor reading (R161). -/
def State.thermDue (s : State) : Nat := if s.mon.thermOwed then s.now else s.mon.lastTherm + Config.thermistor

/-- Take the level of the thermistor pin as a reading (R161, R162, R149). -/
def State.readThermistor (s : State) : State :=
  let r := s.pins.therm
  let m := { s.mon with lastTherm := s.now, thermOwed := false }
  if validReading r then
    let s1 := (s.setMon { m with temp := r, fallback := false }).compareThermal
    if m.fallback then s1.recomputeLimit else s1
  else if m.fallback then s.setMon m
  else ((s.setMon { m with fallback := true }).raise .sensorFallback).recomputeLimit

/-! ## Doze and wake (R164 to R166) -/

/-- The conditions of the DOZE command (R164). -/
def State.mayDoze (s : State) : Bool :=
  s.head.state == .idle && s.arb.p0.cells.isEmpty && s.arb.p1.cells.isEmpty && s.arb.p2.cells.isEmpty
    && s.arb.p3.cells.isEmpty && s.comp.rows.isEmpty && s.comp.line.isNone
    && (s.line.state == .off || s.line.state == .listen)

/-- Entry to Doze: auto-repeat stops; the intervals follow the power state (R164, R78). -/
def State.enterDoze (s : State) : State :=
  (s.setMon { s.mon with power := .doze }).setKeys { s.keys with repeating := none }

/-- The analogue inputs as they stand at a wake: free values, for no row carries them; the choice is counted (log 7). -/
def State.measureInputs (s : State) : State :=
  (s.setPins { s.pins with supply := Config.wakeSupply s.choices, therm := Config.wakeTherm s.choices }).setChoices (s.choices + 1)

/-- A wake cause: in Doze the part returns to Run with its notice, a supply sample and a thermistor reading of that moment; in Run nothing happens (R166). -/
def State.wake (s : State) (c : WakeCause) : State :=
  match s.mon.power with
  | .run => s
  | .doze => ((((s.setMon { s.mon with power := .run }).post (.wake c)).measureInputs).sampleSupply).readThermistor

/-! ## Power-on (R167, R157) -/

/-- The Monitor after its first readings (R167). -/
def Monitor.powerOn (now : Nat) (paper lid : Bool) (supply : BitVec 16) (therm : Int) : Monitor :=
  let v := supply.toNat
  let valid := validReading therm
  { paper := { value := paper }
    lid := { value := lid }
    samples := { a := v, b := v, c := v, d := v }
    temp := if valid then therm else 25
    fallback := !valid
    supplyHold := v < 560
    thermalHold := valid && (65 : Int) < therm
    lastSupply := now
    lastTherm := now }

end Sys2Proof.Machine
end

