-- ==== Sys2Proof/Machine/Modem.lean ====
section
/-!
DEFINITION. The Coupler Modem's line and direction states: entries, the end of a connection (R11, R12, R20), turns of TA1200 (R13, R18, R19), and the abandonment of a record by them (R14, R29).
-/

namespace Sys2Proof.Machine

/-! ## Reception -/

/-- The timing trim returns to nominal (R17). -/
def State.clearTrim (s : State) : State := s.setLine { s.line with trim := none }

/-- The record under assembly is dropped and the engine is in TEXT (2.4). -/
def State.dropRecord (s : State) : State :=
  (s.setEngine { s.engine with rx := .text, record := {}, gap := none }).clearTrim

/-- Reception stops: a held character and a Break under way are discarded (R14). -/
def Line.stopReception (l : Line) : Line := { l with held := false, inBreak := false }

/-- One more in an error count, which stays at 255 (R28). -/
def bump (n : Nat) : Nat := if n < 255 then n + 1 else n

def ErrorCounts.count (c : ErrorCounts) (e : RecordError) : ErrorCounts :=
  match e with
  | .marker => { c with marker := bump c.marker }
  | .header => { c with header := bump c.header }
  | .gap => { c with gap := bump c.gap }
  | .framing => { c with framing := bump c.framing }
  | .crc => { c with crc := bump c.crc }

/-- A counted abandonment (R28). -/
def State.abandon (s : State) (e : RecordError) : State :=
  ((s.dropRecord).setEngine { s.dropRecord.engine with counts := s.engine.counts.count e }).raise .recordError

/-! ## Ending a connection -/

/-- Items 2 to 6 of R11 on the engine and the transmitter, apart from the slot that was sending. -/
def State.quietLine (s : State) : State :=
  let s1 := s.dropRecord
  let s2 := s1.setEngine { s1.engine with reply := none }
  s2.setTx { s2.tx with progress := .idle, breakPending := false, flow := .flowing }

/-- A slot in SENDING becomes ABORTED with the outcome line lost (R11 item 4, R54). -/
def State.loseSlot (s : State) (n : Fin 4) : State :=
  if s.tx.slots[n].state = .sending then
    (s.setTx { s.tx with slots := s.tx.slots.set n { s.tx.slots[n] with state := .aborted, abortNoted := false } }).post
      (.slotDone n .lineLost)
  else s

/-- Items 2 to 7 of R11, their notices in that order. -/
def State.endConnection (s : State) : State :=
  ((List.finRange 4).foldl State.loseSlot s.quietLine).missingLast

/-- The line leaves its state for OFF or LISTEN: direction, timers and reception end (R11 item 1, R12, R20). -/
def Line.leave (l : Line) (x : LineState) : Line :=
  { l.stopReception with state := x, direction := none, timers := {}, trim := none }

/-! ## Entries to line states -/

/-- In LISTEN with the carrier present the line enters QUALIFY and a dozing part wakes (R4, R5, R166). -/
def State.takeCarrier (s : State) : State :=
  if s.line.state = .listen && s.pins.carrier then
    (s.setLine { s.line with state := .qualify, timers := { s.line.timers with qualify := some s.now, dropout := none } }).wake
      .carrier
  else s

/-- A timer that runs while the carrier is absent (R7, R10, R18). -/
def State.absenceTimer (s : State) : Option Nat := if s.pins.carrier then none else some s.now

/-- The direction state becomes LISTENING: the turnaround-gap and drop timers start where the carrier is absent (R18, R10). -/
def State.toListening (s : State) : State :=
  s.setLine { s.line with direction := some .listening
                          timers := { gap := s.absenceTimer, drop := s.absenceTimer } }

/-- Post the Line State notice of the present line state (R6). -/
def State.postLineState (s : State) : State := s.post (.lineState s.line.state s.line.settings.speed)

/-- Entry to ONLINE out of QUALIFY (R6, R58). -/
def State.enterOnline (s : State) : State :=
  let s1 := s.setLine { s.line with state := .online, timers := { loss := s.absenceTimer } }
  let s2 := match s.line.settings.speed with
    | .sb300 => s1
    | .ta1200 => s1.toListening
  s2.postLineState.flowCompare

/-- Line loss (R11). -/
def State.loseLine (s : State) : State :=
  (((((s.setLine (s.line.leave .listen)).endConnection).raise .lineLost).post (.lineState .listen s.line.settings.speed))).takeCarrier

/-! ## Turns of TA1200 -/

/-- The Line Transmitter has work (R13). -/
def State.hasWork (s : State) : Bool :=
  s.tx.flow == .holdPending || s.tx.flow == .resumePending || s.tx.breakPending || s.engine.reply.isSome
    || (s.line.settings.format == .f8N1 && s.tx.slots.toList.any (fun x => x.state == .requested))
    || !s.tx.ttq.isEmpty || match s.tx.progress with
      | .record _ _ _ _ => true
      | .idle | .char _ _ _ | .brk _ => false

/-- The turnaround-gap timer has reached the Turnaround Gap (R18). -/
def State.gapReached (s : State) : Bool := s.elapsed s.line.timers.gap (s.line.settings.gapMs * Config.unitsPerMs)

/-- The talk timer has passed the Talk Limit (R19; log 24). -/
def State.talkPassed (s : State) : Bool := s.elapsed s.line.timers.talk (s.line.settings.talkMs * Config.unitsPerMs + 1)

/-- TAKING begins: the lead-in is sent, and what was being received is discarded (R18, R14, R10). -/
def State.enterTaking (s : State) : State :=
  s.setLine { s.line.stopReception with direction := some .taking, timers := { leadIn := some s.now } }

/-- RELEASING begins; with the remote carrier present the tail is cut at once (R19). -/
def State.enterReleasing (s : State) : State :=
  if s.pins.carrier then s.toListening
  else s.setLine { s.line with direction := some .releasing, timers := { tail := some s.now } }

/-- One more collision, saturating at 255 (R18). -/
def State.collide (s : State) : State :=
  let s1 := s.toListening
  s1.setLine { s1.line with collisions := bump s1.line.collisions }

/-! ## Line unit reset (R20, R43, R60) -/

/-- A slot under a line unit reset (R60). -/
def Slot.lineReset (x : Slot) : Slot :=
  if x.state = .requested || x.state = .sending then { x with state := .aborted, abortNoted := false } else x

/-- The Line effects of RESET UNIT (R20, R43, R60, R126). -/
def State.resetLine (s : State) : State :=
  let s1 := s.setLine { s.line.leave .off with collisions := 0 }
  let s2 := s1.quietLine
  (s2.setTx { s2.tx with ttq := [], slots := s2.tx.slots.map Slot.lineReset }).missingLast

end Sys2Proof.Machine
end

