-- ==== Sys2Proof/Machine/Transmit.lean ====
section
/-!
DEFINITION. The Line Transmitter: the framing of a record (R49), the choice among the sources (R45, R46, R48, R53, R56, R59), and the end of an item (R44, R53, R59).
-/

namespace Sys2Proof.Machine

/-- The items of a record: Break, marker, header, station, route, payload, CRC low and high (R49). -/
def frameRecord (station : Fin 31) (r : OutRecord) : List TxItem :=
  let covered := headerByte r.kind ((lengthCode? r.payload.length).getD 0) :: BitVec.ofNat 8 station.val
    :: routeByte r.route r.segment :: r.payload
  let crc := crcOf covered
  .brk :: (markerCode :: covered ++ [crc.extractLsb' 0 8, crc.extractLsb' 8 8]).map .char

/-- Character times an item lasts (R44, R48). -/
def TxItem.chars : TxItem → Nat
  | .brk => 2
  | .char _ => 1

/-- The bits of the item on the line, true for mark (R2, R48): a Break is two character times of space. -/
def TxItem.lineBits (f : Format) : TxItem → List Bool
  | .brk => List.replicate 20 false
  | .char c => frameBits f c

/-- The reply is ready (R42). -/
def State.replyReady (s : State) : Bool :=
  match s.engine.reply with
  | some r => r.readyAt ≤ s.now
  | none => false

/-- The lowest-numbered REQUESTED slot, eligible in 8N1 (R45, R53). -/
def State.requestedSlot (s : State) : Option (Fin 4) :=
  if s.line.settings.format = .f8N1 then (List.finRange 4).find? (fun n => s.tx.slots[n].state == .requested)
  else none

/-- What the choice of R45 takes. -/
inductive Source
  | flow
  | brk
  | reply
  | slot (n : Fin 4)
  | text
  deriving DecidableEq, Repr

/-- The first source that has an eligible item (R45). -/
def State.source (s : State) : Option Source :=
  if s.tx.flow = .holdPending || s.tx.flow = .resumePending then some .flow
  else if s.tx.breakPending then some .brk
  else if s.replyReady then some .reply
  else match s.requestedSlot with
    | some n => some (.slot n)
    | none => if s.tx.ttq.isEmpty then none else some .text

/-- The item that is on the line has the start `now` (R44). -/
def State.startProgress (s : State) (p : Progress) : State := s.setTx { s.tx with progress := p }

/-- Begin the item of a source (R45). -/
def State.begin (s : State) : Source → State
  | .flow =>
    let code := if s.tx.flow = .holdPending then s.tx.flowSettings.holdCode else s.tx.flowSettings.resumeCode
    s.startProgress (.char code true s.now)
  | .brk => s.setTx { s.tx with breakPending := false, progress := .brk s.now }
  | .reply =>
    match s.engine.reply with
    | some r =>
      (s.setEngine { s.engine with reply := none }).startProgress
        (.record .reply (frameRecord s.line.settings.station r.record) 0 (some s.now))
    | none => s
  | .slot n =>
    let x := s.tx.slots[n]
    let r : OutRecord := { kind := 5, route := x.route, segment := x.segment, payload := x.payload }
    s.setTx { s.tx with slots := s.tx.slots.set n { x with state := .sending }
                        progress := .record (.slot n) (frameRecord s.line.settings.station r) 0 (some s.now) }
  | .text =>
    match s.tx.ttq with
    | c :: rest => s.setTx { s.tx with ttq := rest, progress := .char c false s.now }
    | [] => s

/-- The record in progress waits for its next item (R44, R50). -/
def Progress.waits : Progress → Bool
  | .record _ _ _ none => true
  | _ => false

/-- Begin the next item of the record in progress (R44). -/
def State.resumeRecord (s : State) : State :=
  match s.tx.progress with
  | .record src items pos none => s.startProgress (.record src items pos (some s.now))
  | _ => s

/-- The moment the item on the line ends, if one is on the line (R44). -/
def State.itemEnd (s : State) : Option Nat :=
  let c := charTime s.line.settings.speed
  match s.tx.progress with
  | .idle => none
  | .char _ _ start => some (start + c)
  | .brk start => some (start + 2 * c)
  | .record _ items pos start => start.map fun t => t + ((items[pos]?).getD .brk).chars * c

/-- The flow state at the end of a flow character, before its comparison (R59). -/
def flowSent : FlowState → FlowState
  | .holdPending => .held
  | .resumePending => .flowing
  | .flowing => .flowing
  | .held => .held

/-- A record of a source has ended with its CRC high byte (R53). -/
def State.recordSent (s : State) : TxSource → State
  | .reply => s
  | .slot n =>
    let x := s.tx.slots[n]
    (s.setTx { s.tx with slots := s.tx.slots.set n { x with state := .sent, abortNoted := false } }).post
      (.slotDone n (if x.abortNoted then .abortTooLate else .sent))

/-- The item on the line ends (R44, R53, R59). -/
def State.endItem (s : State) : State :=
  match s.tx.progress with
  | .idle => s
  | .char _ flow _ =>
    if flow then (s.setTx { s.tx with progress := .idle, flow := flowSent s.tx.flow }).flowCompare
    else s.startProgress .idle
  | .brk _ => s.startProgress .idle
  | .record _ _ _ none => s
  | .record src items pos (some _) =>
    if pos + 1 < items.length then s.startProgress (.record src items (pos + 1) none)
    else (s.startProgress .idle).recordSent src

/-! ## What the transmitter does of itself (R44, R18, R19) -/

/-- An act of the Line Transmitter. -/
inductive TxAct
  | take
  | release
  | resume
  | choose (source : Source)
  deriving DecidableEq, Repr

/-- The transmitter's next act, if it has one at this moment (R18, R19, R44). -/
def State.txAct (s : State) : Option TxAct :=
  if s.line.state = .online then
    if s.line.settings.speed = .ta1200 && s.line.direction = some .listening then
      if s.hasWork && !s.pins.carrier && s.gapReached then some .take else none
    else if s.line.settings.speed = .ta1200 && s.line.direction = some .talking && s.tx.progress = .idle
        && (!s.hasWork || s.talkPassed) then some .release
    else if s.line.mayBegin then
      if s.tx.progress.waits then some .resume
      else if s.tx.progress = .idle then s.source.map .choose
      else none
    else none
  else none

def State.doTx (s : State) : TxAct → State
  | .take => s.enterTaking
  | .release => s.enterReleasing
  | .resume => s.resumeRecord
  | .choose src => s.begin src

end Sys2Proof.Machine
end

