-- ==== Sys2Proof/Machine/Keys.lean ====
section
/-!
DEFINITION. The Key Scanner and the Key Dispatcher: debounce (R62), releases and presses (R63 to R70), the keymap (R72), repeat (R69), dispatch (R73 to R77), and the keyboard reset (R79).
-/

namespace Sys2Proof.Machine

/-! ## Keymap (R72) -/

/-- Number of a keymap entry. -/
def keymapIndex (k : Fin 96) (l : Layer) : Nat := 4 * k.val + l.code

/-- Read an entry: an unlisted one is Report. -/
def keymapRead (m : List (Nat × KeyAction)) (i : Nat) : KeyAction :=
  match m with
  | [] => .report
  | (j, a) :: rest => if j = i then a else keymapRead rest i

/-- Insert an entry that is not Report, keeping the numbers rising. -/
def keymapInsert (m : List (Nat × KeyAction)) (i : Nat) (a : KeyAction) : List (Nat × KeyAction) :=
  match m with
  | [] => [(i, a)]
  | (j, b) :: rest =>
    if j < i then (j, b) :: keymapInsert rest i a
    else if j = i then (i, a) :: rest
    else (i, a) :: (j, b) :: rest

/-- Replace an entry; Report is what an unlisted entry reads as. -/
def keymapWrite (m : List (Nat × KeyAction)) (i : Nat) (a : KeyAction) : List (Nat × KeyAction) :=
  if a = .report then m.filter (fun e => e.1 != i) else keymapInsert m i a

/-- The entry of a key in a layer. -/
def Keyboard.entry (k : Keyboard) (key : Fin 96) (l : Layer) : KeyAction := keymapRead k.keymap (keymapIndex key l)

/-- The entry as the Scanner takes it for an event: a Modifier outside the Plain layer is None (R72). -/
def layerAction (l : Layer) (a : KeyAction) : KeyAction :=
  match a, l with
  | .modifier m, .plain => .modifier m
  | .modifier _, _ => .none
  | a, _ => a

/-! ## Debounce (R61, R62) -/

def Keyboard.isDown (k : Keyboard) (key : Fin 96) : Bool := k.down.any (fun d => d.key == key)

/-- The key counts open scans: it is in the Down Set or awaits release (R62, R79). -/
def Keyboard.countsOpen (k : Keyboard) (key : Fin 96) : Bool := k.isDown key || k.awaiting.getLsbD key.val

def Keyboard.count (k : Keyboard) (key : Fin 96) : Nat := k.counts.getD key.val 0

/-- The count of a key after a scan, before any qualification (R62). -/
def Keyboard.countAfter (k : Keyboard) (closed : BitVec 96) (key : Fin 96) : Nat :=
  if closed.getLsbD key.val = k.countsOpen key then 0 else min 15 (k.count key + 1)

/-- All keys in ascending number. -/
def allKeys : List (Fin 96) := List.finRange 96

/-- Every count after a scan (R62). -/
def Keyboard.countScan (k : Keyboard) (closed : BitVec 96) : Keyboard :=
  { k with counts := allKeys.map (k.countAfter closed) }

/-- Set one count to 0 (R62). -/
def Keyboard.clearCount (k : Keyboard) (key : Fin 96) : Keyboard := { k with counts := k.counts.set key.val 0 }

/-! ## Releases (R70, R79) -/

/-- A key awaiting release loses its mark at the Release Count, with no other effect (R79). -/
def Keyboard.endAwait (k : Keyboard) (key : Fin 96) : Keyboard :=
  { k.clearCount key with awaiting := k.awaiting &&& ~~~(1#96 <<< key.val) }

/-- Repeat stops if the key is the repeating one (R69). -/
def Keyboard.stopRepeat (k : Keyboard) (key : Fin 96) : Keyboard :=
  match k.repeating with
  | some r => if r.key = key then { k with repeating := none } else k
  | none => k

/-- Qualified release (R70). -/
def Keyboard.release (k : Keyboard) (key : Fin 96) : Keyboard :=
  { (k.clearCount key).stopRepeat key with down := k.down.filter (fun d => d.key != key) }

/-- The release, or the end of awaiting, of one key at a scan (R61, R70, R79). -/
def Keyboard.releaseStep (closed : BitVec 96) (k : Keyboard) (key : Fin 96) : Keyboard :=
  if !closed.getLsbD key.val && k.settings.release ≤ k.count key then
    if k.isDown key then k.release key
    else if k.awaiting.getLsbD key.val then k.endAwait key
    else k
  else k

/-! ## Presses (R63 to R69) -/

/-- Drive and sense line of a key (R61). -/
def driveOf (k : Fin 96) : Nat := k.val / 12
def senseOf (k : Fin 96) : Nat := k.val % 12

/-- The ghost rule (R64): three keys of the Down Set complete a rectangle with the key. -/
def ghost (down : List DownKey) (k : Fin 96) : Bool :=
  down.any fun a => driveOf a.key == driveOf k && senseOf a.key != senseOf k &&
    down.any fun b => senseOf b.key == senseOf k && driveOf b.key != driveOf k &&
      down.any fun c => driveOf c.key == driveOf b.key && senseOf c.key == senseOf a.key

/-- A qualified press is Blocked (R63). -/
def Keyboard.blocked (k : Keyboard) (key : Fin 96) : Bool := Config.downCap ≤ k.down.length || ghost k.down key

/-- The key enters the Down Set and begins to count open scans (R62, R63). -/
def Keyboard.enterDown (k : Keyboard) (key : Fin 96) (m : Option ModKind) : Keyboard :=
  { k.clearCount key with down := k.down ++ [{ key := key, modifier := m }] }

/-- Offer a Press event (R68). -/
def State.offerPress (s : State) (e : KeyEvent) : State :=
  if s.keys.events.length < Config.eventCap then s.setKeys { s.keys with events := s.keys.events ++ [e] }
  else s.raise .keyLost

/-- A Local action that is carried out at once (R65, R67). -/
def LocalAction.immediate : LocalAction → Bool
  | .sendBreak | .cancelPrint => true
  | .feedLine | .tearFeed | .toggleEcho | .attention => false

/-- Send Break and Cancel Print (R67); the other Local actions are not carried out here. -/
def State.immediate (s : State) : LocalAction → State
  | .sendBreak => s.requestBreak
  | .cancelPrint => s.cancelKey
  | .feedLine | .tearFeed | .toggleEcho | .attention => s

/-- An admitted press (R65, R66, R78). -/
def State.admitPress (s0 : State) (key : Fin 96) : State :=
  let s := s0.wake .keyPress
  match s.keys.entry key .plain with
  | .modifier m =>
    let k := s.keys.enterDown key (some m)
    s.setKeys { k with lock := k.lock ^^ (m == .lock) }
  | _ =>
    let layer := s.keys.layer
    let k := s.keys.enterDown key none
    match layerAction layer (s.keys.entry key layer) with
    | .localAction .sendBreak => (s.setKeys { k with repeating := none }).immediate .sendBreak
    | .localAction .cancelPrint => (s.setKeys { k with repeating := none }).immediate .cancelPrint
    | _ =>
      (s.setKeys { k with repeating := some { key := key, layer := layer, due := s.now + k.settings.delayMs * Config.unitsPerMs } }).offerPress
        { key := key, layer := layer, kind := .press }

/-- The press of one key at a scan: qualified, and admitted unless it is Blocked (R62, R63). -/
def State.pressStep (closed : BitVec 96) (s : State) (key : Fin 96) : State :=
  if closed.getLsbD key.val && !s.keys.countsOpen key && s.keys.settings.press ≤ s.keys.count key && !s.keys.blocked key then
    s.admitPress key
  else s

/-- The scan interval of the power state (R61). -/
def scanInterval : Power → Nat
  | .run => Config.scanRun
  | .doze => Config.scanDoze

/-- One scan of the matrix: counts, then releases, then presses, each in ascending key number (R61). -/
def State.scanMatrix (s : State) (closed : BitVec 96) : State :=
  let k := allKeys.foldl (Keyboard.releaseStep closed) (s.keys.countScan closed)
  let s1 := s.setKeys { k with nextScan := s.now + scanInterval s.mon.power }
  allKeys.foldl (State.pressStep closed) s1

/-- The repeat timer expires (R69). -/
def State.repeatExpiry (s : State) (r : RepeatKey) : State :=
  let k := { s.keys with repeating := some { r with due := s.now + s.keys.settings.intervalMs * Config.unitsPerMs } }
  if k.events.length < Config.repeatLimit then
    s.setKeys { k with events := k.events ++ [{ key := r.key, layer := r.layer, kind := .repeated }] }
  else s.setKeys k

/-! ## Dispatch (R73 to R77) -/

/-- A delivery of `n` codes on a route is taken now (R74, R75): no sink named, Drop When Blocked, or room at every sink; a sequence longer than P1 leaves P1 out of the check. -/
def State.keyTakes (s : State) (r : Fin 16) (n : Nat) : Bool :=
  let e := s.store.route r
  let room := sinkRoom s .p1 e n
  e.dropBlocked || ((room.1 || portCapacity .p1 < n) && room.2.1 && room.2.2)

/-- The attempt on an event finds that it is taken (R73). -/
def State.attemptTakes (s : State) (e : KeyEvent) : Bool :=
  match s.keys.entry e.key e.layer with
  | .character _ => s.keyTakes s.keys.settings.route 1
  | .softKey n => s.store.softKeys[n].string.isEmpty || s.keyTakes s.store.softKeys[n].route s.store.softKeys[n].string.length
  | .localAction .feedLine | .localAction .tearFeed => 0 < s.arb.room .p1
  | .localAction .toggleEcho | .localAction .attention | .localAction .sendBreak | .localAction .cancelPrint => true
  | .report => 0 < s.crqRoom
  | .none | .modifier _ => true

/-- The head event would be taken now (R73). -/
def State.dispatchTakes (s : State) : Bool :=
  match s.keys.events with
  | [] => false
  | e :: _ => s.attemptTakes e

/-- Deliver codes, each translated, on a route from the keyboard (R74, R75). -/
def State.keyDeliver (s : State) (r : Fin 16) (codes : List Byte) : State :=
  s.deliver .p1 r (codes.map (s.store.route r).translate.apply) false

/-- Toggle Echo on a route (R77). -/
def State.toggleEcho (s : State) (r : Fin 16) : State :=
  s.setStore (s.store.setRoute r { s.store.route r with print := !(s.store.route r).print })

/-- What the taken event means (R73 to R77). -/
def State.actOn (s : State) (e : KeyEvent) : State :=
  match s.keys.entry e.key e.layer with
  | .character c => s.keyDeliver s.keys.settings.route [c]
  | .softKey n =>
    if s.store.softKeys[n].string.isEmpty then s else s.keyDeliver s.store.softKeys[n].route s.store.softKeys[n].string
  | .localAction .feedLine => s.putCells .p1 [.char codeLF (s.store.route s.keys.settings.route).style]
  | .localAction .tearFeed => s.putCells .p1 [.char codeFF (s.store.route s.keys.settings.route).style]
  | .localAction .toggleEcho => s.toggleEcho s.keys.settings.route
  | .localAction .attention => s.post (.keyAttention e.key e.layer)
  | .localAction .sendBreak => s.immediate .sendBreak
  | .localAction .cancelPrint => s.immediate .cancelPrint
  | .report => s.pushCrq (.key e.key e.layer)
  | .none | .modifier _ => s

/-- The Dispatcher takes the head event (R73). -/
def State.dispatch (s : State) : State :=
  match s.keys.events with
  | [] => s
  | e :: rest => (s.setKeys { s.keys with events := rest }).actOn e

/-! ## Keyboard reset (R79) -/

/-- The keys marked by a keyboard reset: those that were down or had a closed count above 0, and those still marked (R79). -/
def Keyboard.toAwait (k : Keyboard) : BitVec 96 :=
  allKeys.foldl (fun acc key => if k.isDown key || k.awaiting.getLsbD key.val || 0 < k.count key
    then acc ||| (1#96 <<< key.val) else acc) 0

/-- The Keyboard effects of RESET UNIT (R79). -/
def Keyboard.reset (k : Keyboard) : Keyboard :=
  { k with counts := List.replicate 96 0, down := [], awaiting := k.toAwait, lock := false, repeating := none, events := [] }

end Sys2Proof.Machine
end

