-- ==== Sys2Proof/Machine/Tables.lean ====
section
/-!
DEFINITION. The Shared Store: the data of a write under its selector and index (R81, R89, section 12.3), its permission and room (R84, R87, R88), the write itself (R82, R84, R85, R86), and the reading of an entry.
-/

namespace Sys2Proof.Machine

/-- A write that passed its checks. -/
inductive StoreWrite
  | route (n : Fin 16) (entry : Route)
  | softKey (n : Fin 12) (key : SoftKey)
  | glyph (n : Fin 32) (g : Glyph)
  | energy (n : Fin 16) (value : Nat)
  deriving DecidableEq, Repr

/-- What the checks of a write's payload give: too short for its selector (R81 item 2, R89 items 1 and 3), out of range (R81 items 1 and 3, R89 items 2 and 4), or a write. -/
inductive StoreCheck
  | short
  | badField
  | ok (w : StoreWrite)
  deriving DecidableEq, Repr

/-- The route entry of two data bytes, its Overflow flag clear; none if Translate is 3 or a zero bit is set (R82, section 12.3). -/
def routeOfBytes (b0 b1 : Byte) : Option Route :=
  if b1 >>> 1 = 0 then
    (translate? (b0.extractLsb' 3 2)).map fun t =>
      { print := b0.getLsbD 0, transmit := b0.getLsbD 1, controller := b0.getLsbD 2, translate := t
        style := Style.ofBits (b0.extractLsb' 5 2), dropBlocked := b0.getLsbD 7, locked := b1.getLsbD 0 }
  else none

/-- The two data bytes of a route entry (section 12.3). -/
def Route.bytes (e : Route) : List Byte :=
  let bit (b : Bool) (n : Nat) : Nat := if b then 2 ^ n else 0
  [BitVec.ofNat 8 (bit e.print 0 + bit e.transmit 1 + bit e.controller 2 + 8 * e.translate.bits.toNat
      + 32 * e.style.bits.toNat + bit e.dropBlocked 7),
   BitVec.ofNat 8 (bit e.locked 0)]

/-- A pattern from its 24 bytes, in the order of section 12.3. -/
def patternOfBytes : List Byte → Pattern
  | [] => 0
  | b :: rest => (b.setWidth 192) ||| (patternOfBytes rest <<< 8)

/-- The 24 bytes of a pattern. -/
def patternBytes (p : Pattern) : List Byte := (List.range 24).map fun i => p.extractLsb' (8 * i) 8

/-- An Energy value held to the range of its index (R86, 5.5). -/
def energyClamp (n : Fin 16) (v : Nat) : Nat :=
  if n.val ≤ 7 then clamp 100 3000 v
  else if n.val = 8 then clamp 0 7 v
  else if n.val = 9 then clamp 0 31 v
  else clamp 0 15 v

/-- A Route write: its index, its two data bytes, their ranges. -/
def checkRoute (idx : Byte) (data : List Byte) : StoreCheck :=
  match fin? 16 idx with
  | none => .badField
  | some n =>
    if data.length < 2 then .short
    else match routeOfBytes (byteAt data 0) (byteAt data 1) with
      | none => .badField
      | some e => .ok (.route n e)

/-- A Soft Key write: number and route in the index byte, the length byte, the codes. -/
def checkSoftKey (idx : Byte) (data : List Byte) : StoreCheck :=
  match fin? 12 (idx &&& 0x0F) with
  | none => .badField
  | some n =>
    if data.length < 1 + (byteAt data 0).toNat then .short
    else if Config.stringCap < (byteAt data 0).toNat then .badField
    else .ok (.softKey n { string := (data.drop 1).take (byteAt data 0).toNat, route := (idx.extractLsb' 4 4).toFin })

/-- A Glyph write: its slot, the Valid byte, the 24 pattern bytes. -/
def checkGlyph (idx : Byte) (data : List Byte) : StoreCheck :=
  match fin? 32 idx with
  | none => .badField
  | some n =>
    if data.length < 25 then .short
    else match flag? (byteAt data 0) with
      | none => .badField
      | some v => .ok (.glyph n { valid := v, pattern := patternOfBytes ((data.drop 1).take 24) })

/-- An Energy write: its index and its value, clamped (R86). -/
def checkEnergy (idx : Byte) (data : List Byte) : StoreCheck :=
  match fin? 16 idx with
  | none => .badField
  | some n => if data.length < 2 then .short else .ok (.energy n (energyClamp n (wordAt data 0)))

/-- The checks of a write's payload apart from permission and room (R81 items 1 to 3, R89). -/
def checkStore (p : List Byte) : StoreCheck :=
  if p.length < 2 then .short
  else if byteAt p 0 = 1 then checkRoute (byteAt p 1) (p.drop 2)
  else if byteAt p 0 = 2 then checkSoftKey (byteAt p 1) (p.drop 2)
  else if byteAt p 0 = 3 then checkGlyph (byteAt p 1) (p.drop 2)
  else if byteAt p 0 = 4 then checkEnergy (byteAt p 1) (p.drop 2)
  else .badField

/-- The total of the soft-key strings (R84). -/
def Store.poolTotal (st : Store) : Nat := (st.softKeys.toList.map fun k => k.string.length).sum

/-- The pool's total after a soft-key write (R84). -/
def Store.poolAfter (st : Store) (n : Fin 12) (len : Nat) : Nat := st.poolTotal - st.softKeys[n].string.length + len

/-- There is room for the write (R84; the other selectors need none). -/
def Store.fits (st : Store) : StoreWrite → Bool
  | .softKey n k => st.poolAfter n k.string.length ≤ Config.poolCap
  | .route _ _ | .glyph _ _ | .energy _ _ => true

/-- The remote may make the write (R87, R88). -/
def Store.permits (st : Store) : StoreWrite → Bool
  | .route n _ => st.remoteMask.routes && !(st.route n).locked
  | .softKey _ _ => st.remoteMask.softKeys
  | .glyph _ _ => st.remoteMask.glyphs
  | .energy _ _ => st.remoteMask.energy

/-- The write as the controller makes it (R82, R84 to R86). A route write clears the entry's Overflow flag. -/
def Store.write (st : Store) : StoreWrite → Store
  | .route n e => st.setRoute n { e with overflow := false }
  | .softKey n k => { st with softKeys := st.softKeys.set n k }
  | .glyph n g => { st with glyphs := st.glyphs.set n g }
  | .energy n v => { st with energy := st.energy.set n v }

/-- The write as the remote makes it: the Locked field of a route write is ignored (R82). -/
def Store.remoteWrite (st : Store) : StoreWrite → Store
  | .route n e => st.write (.route n { e with locked := (st.route n).locked })
  | .softKey n k => st.write (.softKey n k)
  | .glyph n g => st.write (.glyph n g)
  | .energy n v => st.write (.energy n v)

/-- Selector and index a Store Written notice carries (R90, R105). -/
def StoreWrite.names : StoreWrite → Nat × Nat
  | .route n _ => (1, n.val)
  | .softKey n _ => (2, n.val)
  | .glyph n _ => (3, n.val)
  | .energy n _ => (4, n.val)

/-- The response payload of READ STORE; none when the selector or index is out of range (R81, section 12.3). -/
def Store.read (st : Store) (sel idx : Byte) : Option (List Byte) :=
  if sel = 1 then
    (fin? 16 idx).map fun n =>
      [1, idx] ++ (st.route n).bytes ++ [if (st.route n).overflow then 1 else 0]
  else if sel = 2 then
    (fin? 12 (idx &&& 0x0F)).map fun n =>
      let k := st.softKeys[n]
      [2, BitVec.ofNat 8 (n.val + 16 * k.route.val), BitVec.ofNat 8 k.string.length] ++ k.string
  else if sel = 3 then
    (fin? 32 idx).map fun n =>
      [3, idx, if st.glyphs[n].valid then 1 else 0] ++ patternBytes st.glyphs[n].pattern
  else if sel = 4 then
    (fin? 16 idx).map fun n => [4, idx] ++ wordBytes st.energy[n]
  else none

end Sys2Proof.Machine
end

