-- ==== Sys2Proof/Machine/Records.lean ====
section
/-!
DEFINITION. The Record Engine: assembly of a record (R21 to R28), the decision (R30 to R35), the actions (R36 to R40) and the replies (R41, R42), with the status payload they carry (R177); and the handing on of characters and Breaks by the modem (R14 to R17).
-/

namespace Sys2Proof.Machine

/-! ## Status (section 12.2, R177) -/

/-- Direction code, 0 without a direction state (R177). -/
def Line.directionCode (l : Line) : Nat :=
  match l.direction with
  | some d => if l.settings.speed = .ta1200 && l.state = .online then d.code else 0
  | none => 0

/-- Grant state code: none, or the port whose line is being composed (R119, R129). -/
def Composer.grantCode (c : Composer) : Nat :=
  match c.line with
  | some l => 1 + portCode l.port
  | none => 0

def Arbiter.holdCode (a : Arbiter) : Nat :=
  match a.hold with
  | some p => p.code
  | none => 0

/-- Bytes 0 to 15 of the status payload (section 12.2). -/
def State.statusBytes (s : State) : List Byte :=
  let bit (b : Bool) (n : Nat) : Nat := if b then 2 ^ n else 0
  [BitVec.ofNat 8 (s.line.state.code + 8 * s.line.settings.speed.code + 16 * s.line.directionCode + 64 * s.tx.flow.code)]
    ++ wordBytes s.rtq.length
    ++ [BitVec.ofNat 8 s.tx.ttq.length, BitVec.ofNat 8 s.crq.length,
        BitVec.ofNat 8 s.arb.p0.cells.length, BitVec.ofNat 8 s.arb.p1.cells.length,
        BitVec.ofNat 8 s.arb.p2.cells.length, BitVec.ofNat 8 s.arb.p3.cells.length,
        BitVec.ofNat 8 (s.comp.grantCode + 8 * s.arb.holdCode + bit s.arb.pause 5),
        BitVec.ofNat 8 (s.head.state.code + bit s.mon.paperHold 3 + bit s.mon.supplyHold 4 + bit s.mon.thermalHold 5
          + bit s.mon.fallback 6),
        BitVec.ofNat 8 (s.head.limit / 16)]
    ++ wordBytes s.mon.supply
    ++ [BitVec.ofInt 8 s.mon.temp, BitVec.ofNat 8 s.line.collisions]

/-! ## Acceptance (R30, R31) -/

/-- A record of the decision, once it is sound: its fields as assembled. -/
def Assembly.addressed (r : Assembly) (own : Fin 31) : Bool :=
  !r.stationUpper && (r.station.toNat == own.val || r.station == 31)

/-- A comparison agrees in every bit the mask leaves clear (R31). -/
def agrees {w : Nat} (mask field value : BitVec w) : Bool := (field ^^^ value) &&& ~~~mask == 0

/-- An enabled filter matches the record (R31). -/
def Filter.matches (f : Filter) (masks : Vector FilterMask 4) (r : Assembly) : Bool :=
  let m := masks[f.mask]
  f.enable && agrees m.kind r.kind f.kind && agrees m.route (BitVec.ofNat 4 r.route.val) f.route
    && agrees m.segment r.segment.bits f.segment

/-- Governing action, Report flag and filter number (R31). -/
def Engine.governs (e : Engine) (r : Assembly) : FilterAction × Bool × Nat :=
  match (List.finRange 8).find? (fun i => e.filters[i].matches e.masks r) with
  | some i => (e.filters[i].action, e.filters[i].report, i.val)
  | none => (e.default.action, e.default.report, 8)

/-! ## The decision (R34, R35) -/

/-- NAK reasons (section 12.1). -/
inductive Reason
  | refused
  | busy
  | denied
  | length
  | badField
  | kind
  deriving DecidableEq, Repr

def Reason.code : Reason → Byte
  | .refused => 1
  | .busy => 2
  | .denied => 3
  | .length => 4
  | .badField => 5
  | .kind => 6

/-- What a record that passes steps 3 to 6 does (R36 to R40). -/
inductive RecordAction
  | text
  | print
  | store (w : StoreWrite)
  | poll
  | cancel
  | message
  deriving DecidableEq, Repr

/-- Steps 3 to 6: the refusal's reason, or the action (R34, R35, R89). -/
def State.examine (s : State) (r : Assembly) : Reason ⊕ RecordAction :=
  if r.kind = 0 || r.kind = 7 then .inl .kind
  else if r.routeUpper then .inl .badField
  else if r.kind = 1 then
    if s.rtq.length + r.payload.length ≤ Config.rtqCap then .inr .text else .inl .busy
  else if r.kind = 2 then
    if s.segmentFits .p3 r.segment (s.store.route r.route).style r.payload then .inr .print else .inl .busy
  else if r.kind = 3 then
    match checkStore r.payload with
    | .short => .inl .length
    | .badField => .inl .badField
    | .ok w =>
      if !s.store.permits w then .inl .denied
      else if !s.store.fits w then .inl .busy
      else .inr (.store w)
  else if r.kind = 4 then .inr .poll
  else if r.kind = 5 then .inr .cancel
  else if 0 < s.crqRoom then .inr .message else .inl .busy

/-- The action of step 7 (R36 to R40). -/
def State.act (s : State) (r : Assembly) (filter : Nat) : RecordAction → State
  | .text => s.pushRtq (r.payload.map fun c => { code := c, route := r.route, substituted := false })
  | .print => s.admitSegment .p3 r.segment (s.store.route r.route).style r.payload
  | .store w => (s.setStore (s.store.remoteWrite w)).post (.storeWritten w.names.1 w.names.2)
  | .poll => s
  | .cancel => s.cancelJob .p3
  | .message => s.pushCrq (.message filter r.payload)

/-! ## Replies (R41, R42) -/

/-- The record is answered (R41): addressed to the own station and asked for, or a POLL. -/
def Assembly.answered (r : Assembly) : Bool := r.station != 31 && (r.ack || r.kind == 4)

def OutRecord.ack : OutRecord := { kind := 1, route := 0, segment := .whole, payload := [] }

def OutRecord.nak (reason : Reason) (kind : BitVec 3) : OutRecord :=
  { kind := 2, route := 0, segment := .whole, payload := [reason.code, kind.setWidth 8] }

def OutRecord.status (s : State) : OutRecord := { kind := 3, route := 0, segment := .whole, payload := s.statusBytes }

/-- Place a reply in the Response Slot, over an older one not begun (R42). -/
def State.placeReply (s : State) (o : OutRecord) : State :=
  let wait := match s.line.settings.speed with
    | .sb300 => 2 * charTime .sb300
    | .ta1200 => 0
  s.setEngine { s.engine with reply := some { record := o, readyAt := s.now + wait } }

/-- Place a reply if the record is answered (R41). -/
def State.answer (s : State) (r : Assembly) (o : OutRecord) : State := if r.answered then s.placeReply o else s

/-- The whole decision of a sound record, one event (2.5). The reply is made after the notices (log 13). -/
def State.decide (s : State) (r : Assembly) : State :=
  if r.addressed s.line.settings.station then
    let g := s.engine.governs r
    if g.1 = .refuse then s.answer r (.nak .refused r.kind)
    else match s.examine r with
      | .inl reason => s.answer r (.nak reason r.kind)
      | .inr a =>
        let s1 := s.act r g.2.2 a
        let s2 := if g.2.1 then s1.post (.recordAccepted r.kind r.route g.2.2) else s1
        s2.answer r (if a = .poll then .status s2 else .ack)
  else s

/-! ## Assembly (R23 to R27) -/

/-- The engine goes to the next reception state with a new record under assembly; the gap timer restarts at the stop bit (R22). -/
def State.assemble (s : State) (rx : RxState) (r : Assembly) : State :=
  s.setEngine { s.engine with rx := rx, record := r, gap := some s.now }

/-- An unmarked marker candidate (R23, R17). -/
def State.takeMarker (s : State) (c : Byte) (edge : Option Nat) : State :=
  if c = markerCode && intervalOk s.line.settings.speed edge then
    (s.assemble .header s.engine.record).setLine { s.line with trim := edge }
  else s.abandon .marker

/-- An unmarked header byte (R24). -/
def State.takeHeader (s : State) (c : Byte) : State :=
  if headerOk c then
    s.assemble .station { s.engine.record with kind := headerKind c, lenCode := headerLenCode c, crc := crcByte s.engine.record.crc c }
  else s.abandon .header

/-- An unmarked station byte (R25). -/
def State.takeStation (s : State) (c : Byte) : State :=
  s.assemble .route { s.engine.record with station := c.extractLsb' 0 5, stationUpper := c.extractLsb' 5 3 != 0
                                           crc := crcByte s.engine.record.crc c }

/-- An unmarked route byte (R25). -/
def State.takeRoute (s : State) (c : Byte) : State :=
  let next := if payloadLength s.engine.record.lenCode = 0 then RxState.check else .payload
  s.assemble next { s.engine.record with route := (c.extractLsb' 0 4).toFin, segment := Segment.ofBits (c.extractLsb' 4 2)
                                         ack := c.getLsbD 6, routeUpper := c.getLsbD 7, crc := crcByte s.engine.record.crc c }

/-- An unmarked payload byte (R26). -/
def State.takePayload (s : State) (c : Byte) : State :=
  let r := { s.engine.record with payload := s.engine.record.payload ++ [c], crc := crcByte s.engine.record.crc c }
  s.assemble (if r.payload.length < payloadLength r.lenCode then .payload else .check) r

/-- An unmarked CRC byte (R27): the low byte is kept; the high byte ends the record, which is decided if it is sound. -/
def State.takeCheck (s : State) (c : Byte) : State :=
  match s.engine.record.crcLow with
  | none => s.assemble .check { s.engine.record with crcLow := some c }
  | some low =>
    if low.setWidth 16 ||| (c.setWidth 16 <<< 8) = s.engine.record.crc then s.dropRecord.decide s.engine.record
    else s.abandon .crc

/-- A character in a reception state other than TEXT (R16, R23 to R27). -/
def State.recordCharacter (s : State) (c : Byte) (marked : Bool) (edge : Option Nat) : State :=
  if marked then s.abandon .framing
  else match s.engine.rx with
    | .text => s
    | .marker => s.takeMarker c edge
    | .header => s.takeHeader c
    | .station => s.takeStation c
    | .route => s.takeRoute c
    | .payload => s.takePayload c
    | .check => s.takeCheck c

/-! ## The modem hands on (R14 to R16) -/

/-- A character received in TEXT is offered to the RTQ on the Line Text Route (R16, R94). -/
def State.offerText (s : State) (c : Byte) (marked : Bool) : State :=
  let route := s.line.settings.textRoute
  if s.rtq.length < Config.rtqCap then
    s.pushRtq [{ code := if marked then s.line.settings.substitute else c, route := route, substituted := marked }]
  else s.routeDrop route

/-- A received character is handed on (R16). -/
def State.handOn (s : State) (c : Byte) (marked : Bool) (edge : Option Nat) : State :=
  if s.engine.rx = .text then s.offerText c marked else s.recordCharacter c marked edge

/-- The held character is handed on as a marked 00h (R15). -/
def State.releaseHeld (s : State) : State :=
  if s.line.held then (s.setLine { s.line with held := false }).handOn 0 true none else s

/-- The line returns to mark after a Break; in a record the gap timer starts (R21). -/
def State.endBreak (s : State) : State :=
  let s1 := s.setLine { s.line with inBreak := false }
  if s.engine.rx = .text then s1 else s1.setEngine { s1.engine with gap := some s.now }

/-- The gap timer of a record exceeded three character times more than `n / d` before now (R22). -/
def State.gapBefore (s : State) (n d : Nat) : Bool :=
  s.engine.rx != .text && match s.engine.gap with
    | none => false
    | some g => d * (g + 3 * charTime s.line.settings.speed) + n < d * s.now

/-- The gap timer exceeded its limit before the start edge of the character that reaches its stop bit now: that bit is sampled nine and a half bit periods after the edge (R14, R17, R22; log 12). -/
def State.gapBeforeCharacter (s : State) : Bool :=
  s.gapBefore (19 * s.line.trim.getD (7 * bitTime s.line.settings.speed)) 14

/-- The gap timer exceeded its limit before the Break that is detected now began, two character times ago (R15, R22). -/
def State.gapBeforeBreak (s : State) : Bool := s.gapBefore (2 * charTime s.line.settings.speed) 1

/-- The Gap error of a record whose next start edge came too late (R22). -/
def State.expireGap (s : State) (late : Bool) : State := if late then s.abandon .gap else s

/-- A character that is space throughout is held at its stop bit (R14); its start edge stopped the gap timer (R22). -/
def State.holdCharacter (s : State) : State :=
  (s.setLine { s.line with held := true }).setEngine { s.engine with gap := none }

/-- A character reaches its stop bit (R14 to R17, R22). A Break or a held character before it has ended, since its start edge left mark (log 11). -/
def State.receive (s : State) (data : Byte) (parity stop : Bool) (edge : Option Nat) : State :=
  let s0 := if s.line.inBreak then s.endBreak else s
  let s1 := s0.releaseHeld
  let s2 := s1.expireGap s1.gapBeforeCharacter
  let f := s.line.settings.format
  if isAllSpace f data parity stop then s2.holdCharacter
  else s2.handOn (receivedCode f data) (isMarked f data parity stop) edge

/-- A Break is detected (R15, R16, R21, R22). -/
def State.takeBreak (s : State) : State :=
  let s0 := s.expireGap s.gapBeforeBreak
  let s1 := s0.setLine { s0.line with held := false, inBreak := true }
  match s.line.settings.format with
  | .f8N1 =>
    let s2 := s1.dropRecord
    s2.setEngine { s2.engine with rx := .marker, record := { crc := crcPreset } }
  | .f7E1 | .f7O1 => s1.post .brk

end Sys2Proof.Machine
end

