-- ==== Sys2Proof/Machine/Settle.lean ====
section
/-!
DEFINITION. What follows an event inside the same step: the Line Transmitter's act, the Head Drive's row start, the Composer's appending and finish, the grant, and the attempts of the Stream Router and the Key Dispatcher (R44, R73, R96, R118, R138, R142, R153; 95_what_each_step_holds), and the watch over the stall timer (R121).
-/

namespace Sys2Proof.Machine

/-! ## The Stream Router (R96 to R101) -/

/-- The route's sinks let a cell be taken now: Drop When Blocked, or room for one unit at every sink (R100, R101). -/
def State.routeRoom (s : State) (r : Fin 16) : Bool :=
  let room := sinkRoom s .p0 (s.store.route r) 1
  (s.store.route r).dropBlocked || (room.1 && room.2.1 && room.2.2)

/-- The head cell of the RTQ would be taken now (R96, R97). -/
def State.routeTakes (s : State) : Bool :=
  match s.rtq with
  | [] => false
  | c :: _ => s.routeRoom c.route

/-- The code delivered for a cell (R97, R98): a substituted cell is not translated. -/
def State.deliveredCode (s : State) (c : TextCell) : Byte :=
  if c.substituted then c.code else (s.store.route c.route).translate.apply c.code

/-- The Router takes the head cell (R96 to R101); the fall of the RTQ fill is one comparison of the flow state (R95). -/
def State.routeHead (s : State) : State :=
  match s.rtq with
  | [] => s
  | c :: rest => ((s.setRtq rest).deliver .p0 c.route [s.deliveredCode c] c.substituted).flowCompare

/-! ## Follow-ups -/

/-- One follow-up. The flag of the last two says that the free choice between Router and Dispatcher was used (R102; log 4). -/
inductive Action
  | transmit (a : TxAct)
  | startRow
  | append
  | finish
  | grant (p : PortId)
  | route (chosen : Bool)
  | dispatch (chosen : Bool)
  deriving DecidableEq, Repr

/-- The Router's or the Dispatcher's take; which of two that are possible comes first is free (R102; log 4). -/
def State.deliveryAction (s : State) : Option Action :=
  if s.routeTakes then
    if s.dispatchTakes then (if Config.routerFirst s.choices then some (.route true) else some (.dispatch true))
    else some (.route false)
  else if s.dispatchTakes then some (.dispatch false)
  else none

/-- The Head Drive may start a row out of IDLE (R142, R153). -/
def State.mayStart (s : State) : Bool := s.head.state == .idle && !s.mon.anyHold && s.headWork

/-- The next follow-up, if there is one (log 5). -/
def State.nextAction (s : State) : Option Action :=
  match s.txAct with
  | some a => some (.transmit a)
  | none =>
    if s.mayStart then some .startRow
    else if s.comp.canAppend then some .append
    else if s.comp.canFinish then some .finish
    else match s.grantChoice with
      | some p => some (.grant p)
      | none => s.deliveryAction

/-- A free choice was used (log 4). -/
def State.spend (s : State) (chosen : Bool) : State := if chosen then s.setChoices (s.choices + 1) else s

def State.perform (s : State) : Action → State
  | .transmit a => s.doTx a
  | .startRow => s.startRow
  | .append => s.setComp s.comp.append
  | .finish => s.finishLine
  | .grant p => s.grant p
  | .route chosen => (s.spend chosen).routeHead
  | .dispatch chosen => (s.spend chosen).dispatch

/-- Follow-ups until there is none. -/
def State.settle : Nat → State → State
  | 0, s => s
  | fuel + 1, s =>
    match s.nextAction with
    | none => s
    | some a => State.settle fuel (s.perform a).watchStall

/-- The end of an event: the stall timer, then every follow-up (log 25 for the bound). A waiting Router's or Dispatcher's attempt comes inside the event in which its room rose, before a later SEND TEXT, record decision or notice: R102 lets any of these be taken first (DESIGN CHOICE, log 34). -/
def State.finishEvent (s : State) : State := State.settle Config.followUps s.watchStall

/-- Nothing is left to follow: no block has anything to do before the next event. -/
def State.quiet (s : State) : Bool := s.nextAction.isNone && (s.arb.stall.isSome == s.stallRuns)

end Sys2Proof.Machine
end

