-- ==== Sys2Proof/Machine/Timers.lean ====
section
/-!
DEFINITION. The moment at which each timer of the part expires, if it is running, and the step an expiry makes: the clock reaches that moment, the effect takes place, the follow-ups come (log 1, log 3).
-/

namespace Sys2Proof.Machine

/-- A running timer's end: its start and its length. -/
def after (start : Option Nat) (d : Nat) : Option Nat := start.map (· + d)

/-- A timer counts only under its condition. -/
def whenever (c : Bool) (due : Option Nat) : Option Nat := if c then due else none

/-- The line is in TA1200 ONLINE with a direction state. -/
def Line.turned (l : Line) (d : Direction) : Bool :=
  l.state == .online && l.settings.speed == .ta1200 && l.direction == some d

/-- Qualify timer (R5). -/
def State.qualifyDue (s : State) : Option Nat :=
  whenever (s.line.state == .qualify) (after s.line.timers.qualify (s.line.settings.qualifyMs * Config.unitsPerMs))

/-- Absence of the carrier in QUALIFY (R5). -/
def State.dropoutDue (s : State) : Option Nat :=
  whenever (s.line.state == .qualify) (after s.line.timers.dropout Config.carrierSettle)

/-- Loss timer (R7). -/
def State.lossDue (s : State) : Option Nat :=
  whenever (s.line.state == .online && s.line.settings.speed == .sb300)
    (after s.line.timers.loss (s.line.settings.lossMs * Config.unitsPerMs))

/-- Presence of the carrier in FADE (R8). -/
def State.returnDue (s : State) : Option Nat :=
  whenever (s.line.state == .fade) (after s.line.timers.back Config.carrierSettle)

/-- Drop timer in FADE (R8). -/
def State.fadeDropDue (s : State) : Option Nat :=
  whenever (s.line.state == .fade) (after s.line.timers.drop (s.line.settings.dropMs * Config.unitsPerMs))

/-- Drop timer in TA1200 (R10). -/
def State.turnDropDue (s : State) : Option Nat :=
  whenever (s.line.turned .listening) (after s.line.timers.drop (s.line.settings.dropMs * Config.unitsPerMs))

/-- Turnaround-gap timer (R18). -/
def State.gapDue (s : State) : Option Nat :=
  whenever (s.line.turned .listening) (after s.line.timers.gap (s.line.settings.gapMs * Config.unitsPerMs))

/-- Lead-in (R18). -/
def State.leadInDue (s : State) : Option Nat := whenever (s.line.turned .taking) (after s.line.timers.leadIn Config.leadIn)

/-- Talk timer passing the Talk Limit (R19; log 24). -/
def State.talkDue (s : State) : Option Nat :=
  whenever (s.line.turned .talking) (after s.line.timers.talk (s.line.settings.talkMs * Config.unitsPerMs + 1))

/-- Tail (R19). -/
def State.tailDue (s : State) : Option Nat := whenever (s.line.turned .releasing) (after s.line.timers.tail Config.tail)

/-- Gap timer of the record exceeding three character times (R22; log 24). -/
def State.recordGapDue (s : State) : Option Nat :=
  whenever (s.engine.rx != .text) (after s.engine.gap (3 * charTime s.line.settings.speed + 1))

/-- The reply becomes ready (R42). -/
def State.replyDue (s : State) : Option Nat := s.engine.reply.map Reply.readyAt

/-- Repeat timer (R69). -/
def State.repeatDue (s : State) : Option Nat := s.keys.repeating.map RepeatKey.due

/-- Age of a port (R117). -/
def State.partialDue (s : State) (p : PortId) : Option Nat :=
  after ((s.arb.port p).cells.head?.map PortCell.entered) (s.arb.settings.partialMs * Config.unitsPerMs)

/-- Stall timer (R121). -/
def State.stallEnd (s : State) : Option Nat :=
  whenever s.arb.hold.isSome (after s.arb.stall (s.arb.settings.stallS * 1000 * Config.unitsPerMs))

/-- End of the phase that is firing (R151). -/
def State.phaseDue (s : State) : Option Nat :=
  whenever (s.head.state == .firing) (s.head.row.map RowRun.phaseEnd)

/-- End of the row period (R151, R152). -/
def State.rowDue (s : State) : Option Nat :=
  whenever (s.head.state == .firing || s.head.state == .advancing) (s.head.row.map RowRun.periodEnd)

/-- Settle timer (R154). -/
def State.settleDue (s : State) : Option Nat :=
  whenever (s.head.state == .settle) (after s.head.settle Config.headSettle)

/-- Stability timer of an input (R158). -/
def State.stableDue (s : State) (i : Sensor) : Option Nat := after (s.mon.sensed i).stable Config.sensorStable

/-- An expiry: at the moment it is due, its effect, then the follow-ups; a timer that does not run has no expiry (log 3). -/
def State.expiry (s : State) (due : Option Nat) (effect : State → State) : State :=
  match due with
  | none => s
  | some t => (effect (s.reach t)).finishEvent

/-- An event of the outside: its effect, then the follow-ups, where its condition holds (log 3). -/
def State.event (s : State) (happens : Bool) (effect : State → State) : State :=
  if happens then (effect s).finishEvent else s

end Sys2Proof.Machine
end

