-- ==== Sys2Proof/Machine/Port.lean ====
section
/-!
DEFINITION. The Controller Port: the taking of a command (R168 to R170), results, the packing of READ QUEUE (R171), READ STATUS (R172, section 12.2), the clearing of causes (R173), and power-on (R176).
-/

namespace Sys2Proof.Machine

/-! ## Taking a command (R168) -/

/-- A result without payload, and no change (R169). -/
def State.refuse (s : State) (r : Result) : State × Response := (s, { result := r })

/-- DONE with a payload (R169). -/
def State.done (s : State) (payload : List Byte) : State × Response := (s, { result := .done, payload := payload })

/-- The response record replaces the response buffer (R168). -/
def State.respond (s : State) (r : Response) : State := s.setPort { s.port with selection := none, response := r }

/-- A command is taken: it wakes a dozing part, acts, is answered, and the follow-ups come, in one event (R166, R168). -/
def State.take (s : State) (body : State → State × Response) : State :=
  let r := body (s.wake .command)
  (r.1.respond r.2).finishEvent

/-- The length checks of R169 item 2 before a command's own checks. -/
def checked (fixed : Nat) (p : List Byte) (body : State → State × Response) (s : State) : State × Response :=
  if lengthOk fixed p then body s else s.refuse .badField

/-- A decoded field, or BAD FIELD (R169 items 3 and 5). -/
def field {α : Type} (x : Option α) (body : α → State → State × Response) (s : State) : State × Response :=
  match x with
  | some a => body a s
  | none => s.refuse .badField

/-! ## READ QUEUE (R171) -/

/-- Entries removed, at most so many and within so many payload bytes: their encodings, and what stays. -/
def packQueue : Nat → Nat → List CrqEntry → List Byte × List CrqEntry
  | 0, _, es => ([], es)
  | _ + 1, _, [] => ([], [])
  | n + 1, room, e :: rest =>
    if e.encode.length ≤ room then
      let r := packQueue n (room - e.encode.length) rest
      (e.encode ++ r.1, r.2)
    else ([], e :: rest)

/-- The count a READ QUEUE carries, as taken (R171). -/
def queueCount (b : Byte) : Nat := clamp 1 8 b.toNat

/-! ## READ STATUS (R172, section 12.2) -/

/-- The five record error counts as bytes (section 12.2). -/
def ErrorCounts.bytes (c : ErrorCounts) : List Byte :=
  [c.marker, c.header, c.gap, c.framing, c.crc].map (BitVec.ofNat 8)

/-- Bytes 0 to 22 of the READ STATUS payload. -/
def State.statusResponse (s : State) : List Byte :=
  s.statusBytes ++ wordBytes s.port.causes.toNat ++ s.engine.counts.bytes

/-! ## Causes (R173, R174) -/

/-- A cause set or mask; none if a bit outside the ten causes is set (R178). -/
def causeSet? (n : Nat) : Option (BitVec 10) := if n < 1024 then some (BitVec.ofNat 10 n) else none

/-- The set names a cause. -/
def namesCause (x : BitVec 10) (c : Cause) : Bool := x &&& c.mask != 0

/-- Clear the named causes but for those whose condition lasts, with the side effects of Record Error and Route Overflow (R173, R28, R83). -/
def State.clearCauses (s : State) (x : BitVec 10) : State :=
  let s1 := s.setPort { s.port with causes := s.port.causes &&& (~~~x ||| s.mon.lasting) }
  let s2 := if namesCause x .recordError then s1.setEngine { s1.engine with counts := {} } else s1
  if namesCause x .routeOverflow then s2.setStore s2.store.clearOverflow else s2

/-! ## Resets -/

/-- The Print effects of RESET UNIT (R130, R141, R157). -/
def State.resetPrint (s : State) : State := s.resetPrintPath.resetHead

/-- The Keyboard effects of RESET UNIT (R79). -/
def State.resetKeyboard (s : State) : State := s.setKeys s.keys.reset

/-- The effects of RESET UNIT (R175). -/
def State.resetUnit (s : State) : ResetScope → State
  | .line => s.resetLine
  | .keyboard => s.resetKeyboard
  | .print => s.resetPrint
  | .all => (((s.resetLine.resetKeyboard.resetPrint).setRtq []).setCrq []).clearCauses (BitVec.allOnes 10)

/-- Power-on or RESET (R176 and the values after reset of each chapter). The clock, the choices, the carrier and the queue of commands are not the part's own and go on (log 23). -/
def State.powerOn (s : State) (paper lid : Bool) (supply : BitVec 16) (therm : Int) : State :=
  let mon := Monitor.powerOn s.now paper lid supply therm
  { State.reset with
    now := s.now
    choices := s.choices
    pins := { carrier := s.pins.carrier, paper := paper, lid := lid, supply := supply, therm := therm }
    keys := { nextScan := s.now + Config.scanRun }
    head := { state := if mon.anyHold then .hold else .idle, limit := dotLimitOf 96 mon.supply mon.fallback }
    mon := mon
    port := { causes := mon.lasting }
    pending := s.pending }

end Sys2Proof.Machine
end

