-- ==== Sys2Proof/Machine/ExecLine.lean ====
section
/-!
DEFINITION. Meanings of the line's commands and events: CONFIG LINE, LINE ON, LINE OFF, the filters and masks, the carrier, the timers of line and direction states, and the reception of characters, Breaks and records.
-/

namespace Sys2Proof.Machine

abbrev Out := Host.Outcome State Fault Refusal

/-! ## Line settings and line states -/

/-- The enumerated fields of CONFIG LINE, then the settings it writes (R3, section 1.3). -/
def lineSettings? (p : List Byte) : Option LineSettings := do
  let speed ← speed? (byteAt p 0)
  let role ← role? (byteAt p 1)
  let format ← format? (byteAt p 2)
  let station ← fin? 31 (byteAt p 3)
  let route ← fin? 16 (byteAt p 4)
  return { speed := speed, role := role, format := format, station := station, textRoute := route
           substitute := byteAt p 5
           qualifyMs := quantize 50 50 1600 (wordAt p 6)
           lossMs := quantize 10 10 320 (wordAt p 8)
           dropMs := quantize 200 200 6400 (wordAt p 10)
           gapMs := quantize 10 20 200 (wordAt p 12)
           talkMs := quantize 500 500 8000 (wordAt p 14) }

/-- CONFIG LINE once its length is right (R3). -/
def configLineBody (p : List Byte) (s : State) : State × Response :=
  if s.line.state = .off then
    field (lineSettings? p) (fun x s => (s.setLine { s.line with settings := x }).done []) s
  else s.refuse .busy

/-- CONFIG LINE (R3). -/
def execConfigLine (p : List Byte) (s : State) : Out := .next (s.take (checked 16 p (configLineBody p)))

/-- The effect of LINE ON (R4). -/
def State.lineOn (s : State) : State :=
  if s.line.state = .off then (s.setLine { s.line with state := .listen, timers := {} }).takeCarrier else s

/-- LINE ON (R4). -/
def execLineOn (p : List Byte) (s : State) : Out := .next (s.take (checked 0 p fun s => s.lineOn.done []))

/-- The effect of LINE OFF (R12). -/
def State.lineOff (s : State) : State :=
  if s.line.state = .off then s else (s.setLine (s.line.leave .off)).endConnection.postLineState

/-- LINE OFF (R12). -/
def execLineOff (p : List Byte) (s : State) : Out := .next (s.take (checked 0 p fun s => s.lineOff.done []))

/-! ## Filters (R33) -/

/-- Filters and masks are written while the line is OFF or LISTEN (R33). -/
def Line.filtersOpen (l : Line) : Bool := l.state == .off || l.state == .listen

/-- The fields of SET FILTER after the filter number (R33, section 12.4). -/
def filter? (p : List Byte) : Option Filter := do
  let enable ← flag? (byteAt p 1)
  let kind ← fin? 8 (byteAt p 2)
  let route ← fin? 16 (byteAt p 3)
  let segment ← fin? 4 (byteAt p 4)
  let mask ← fin? 4 (byteAt p 5)
  let action ← filterAction? (byteAt p 6)
  let report ← flag? (byteAt p 7)
  return { enable := enable, kind := BitVec.ofNat 3 kind.val, route := BitVec.ofNat 4 route.val
           segment := BitVec.ofNat 2 segment.val, mask := mask, action := action, report := report }

/-- SET FILTER once its length is right (R33). -/
def setFilterBody (p : List Byte) : State → State × Response :=
  field (fin? 8 (byteAt p 0)) fun n s =>
    if s.line.filtersOpen then
      field (filter? p) (fun f s => (s.setEngine { s.engine with filters := s.engine.filters.set n f }).done []) s
    else s.refuse .busy

/-- SET FILTER (R33). -/
def execSetFilter (p : List Byte) (s : State) : Out := .next (s.take (checked 8 p (setFilterBody p)))

/-- The fields of SET MASK after the mask number (R33, section 12.4). -/
def filterMask? (p : List Byte) : Option FilterMask := do
  let kind ← fin? 8 (byteAt p 1)
  let route ← fin? 16 (byteAt p 2)
  let segment ← fin? 4 (byteAt p 3)
  return { kind := BitVec.ofNat 3 kind.val, route := BitVec.ofNat 4 route.val, segment := BitVec.ofNat 2 segment.val }

/-- SET MASK once its length is right (R33). -/
def setMaskBody (p : List Byte) : State → State × Response :=
  field (fin? 4 (byteAt p 0)) fun n s =>
    if s.line.filtersOpen then
      field (filterMask? p) (fun m s => (s.setEngine { s.engine with masks := s.engine.masks.set n m }).done []) s
    else s.refuse .busy

/-- SET MASK (R33). -/
def execSetMask (p : List Byte) (s : State) : Out := .next (s.take (checked 4 p (setMaskBody p)))

/-- The fields of SET DEFAULT ACTION (R33). -/
def defaultAction? (p : List Byte) : Option DefaultAction := do
  let action ← filterAction? (byteAt p 0)
  let report ← flag? (byteAt p 1)
  return { action := action, report := report }

/-- SET DEFAULT ACTION once its length is right (R33). -/
def setDefaultActionBody (p : List Byte) : State → State × Response :=
  field (defaultAction? p) fun x s => (s.setEngine { s.engine with default := x }).done []

/-- SET DEFAULT ACTION (R33). -/
def execSetDefaultAction (p : List Byte) (s : State) : Out := .next (s.take (checked 2 p (setDefaultActionBody p)))

/-! ## The carrier -/

/-- The carrier detector's output changes. -/
def State.setCarrier (s : State) (x : Bool) : State := s.setPins { s.pins with carrier := x }

/-- Replace the line's timers. -/
def State.setTimers (s : State) (x : LineTimers) : State := s.setLine { s.line with timers := x }

/-- The carrier appears in TA1200 ONLINE (R10, R18, R19). -/
def State.carrierInTurn (s : State) : State :=
  match s.line.direction with
  | some .listening => s.setTimers { s.line.timers with gap := none, drop := none }
  | some .taking => s.collide
  | some .releasing => s.toListening
  | some .talking | none => s

/-- The carrier has appeared (R4, R5, R7, R8). -/
def State.carrierOn (s : State) : State :=
  match s.line.state with
  | .off => s
  | .listen => s.takeCarrier
  | .qualify => s.setTimers { s.line.timers with dropout := none }
  | .online =>
    match s.line.settings.speed with
    | .sb300 => s.setTimers { s.line.timers with loss := none }
    | .ta1200 => s.carrierInTurn
  | .fade => s.setTimers { s.line.timers with back := some s.now, drop := none }

/-- The carrier has ended (R5, R7, R8, R10, R18). -/
def State.carrierOff (s : State) : State :=
  match s.line.state with
  | .off | .listen => s
  | .qualify => s.setTimers { s.line.timers with dropout := some s.now }
  | .online =>
    match s.line.settings.speed with
    | .sb300 => s.setTimers { s.line.timers with loss := some s.now }
    | .ta1200 =>
      if s.line.direction = some .listening then
        s.setTimers { s.line.timers with gap := some s.now, drop := some s.now }
      else s
  | .fade => s.setTimers { s.line.timers with back := none, drop := some s.now }

/-- CARRIER APPEARS (R5; R4, R7, R8, R10, R18, R19). -/
def execCarrierAppears (s : State) : Out := .next (s.event (!s.pins.carrier) fun s => (s.setCarrier true).carrierOn)

/-- CARRIER ENDS (R18; R5, R7, R8, R10). -/
def execCarrierEnds (s : State) : Out := .next (s.event s.pins.carrier fun s => (s.setCarrier false).carrierOff)

/-! ## Timers of the line states -/

/-- QUALIFY TIME EXPIRY (R6). -/
def execQualifyTimeExpiry (s : State) : Out := .next (s.expiry s.qualifyDue State.enterOnline)

/-- Back to LISTEN out of QUALIFY (R5). -/
def State.backToListen (s : State) : State := s.setLine { s.line with state := .listen, timers := {} }

/-- QUALIFY DROPOUT EXPIRY (R5). -/
def execQualifyDropoutExpiry (s : State) : Out := .next (s.expiry s.dropoutDue State.backToListen)

/-- Entry to FADE (R7, R14, R29). -/
def State.enterFade (s : State) : State :=
  let s1 := s.dropRecord
  (s1.setLine { s1.line.stopReception with state := .fade, timers := { drop := some s1.now } }).postLineState

/-- LOSS DELAY EXPIRY (R7). -/
def execLossDelayExpiry (s : State) : Out := .next (s.expiry s.lossDue State.enterFade)

/-- Return from FADE to ONLINE (R8); the flow state is kept (R58). -/
def State.fadeBack (s : State) : State := (s.setLine { s.line with state := .online, timers := {} }).postLineState

/-- FADE RETURN (R8). -/
def execFadeReturn (s : State) : Out := .next (s.expiry s.returnDue State.fadeBack)

/-- FADE DROP EXPIRY (R8, R11). -/
def execFadeDropExpiry (s : State) : Out := .next (s.expiry s.fadeDropDue State.loseLine)

/-- TA1200 DROP EXPIRY (R10, R11). -/
def execTa1200DropExpiry (s : State) : Out := .next (s.expiry s.turnDropDue fun s => s.loseLine)

/-! ## Turns of TA1200 -/

/-- TURNAROUND GAP EXPIRY (R18): with work and no carrier the take of the line follows. -/
def execTurnaroundGapExpiry (s : State) : Out := .next (s.expiry s.gapDue id)

/-- TALKING begins (R18). -/
def State.enterTalking (s : State) : State :=
  s.setLine { s.line with direction := some .talking, timers := { talk := some s.now } }

/-- LEAD IN END (R18). -/
def execLeadInEnd (s : State) : Out := .next (s.expiry s.leadInDue State.enterTalking)

/-- TALK LIMIT EXPIRY (R19): at a boundary outside a record the release follows. -/
def execTalkLimitExpiry (s : State) : Out := .next (s.expiry s.talkDue id)

/-- TAIL END (R19). -/
def execTailEnd (s : State) : Out := .next (s.expiry s.tailDue State.toListening)

/-! ## Reception -/

/-- CHARACTER RECEIVED (R16; R14, R17, R21 to R42). -/
def execCharacterReceived (data : Byte) (parity stop : Bool) (edge : Option Nat) (s : State) : Out :=
  .next (s.event s.line.receiving fun s => s.receive data parity stop edge)

/-- BREAK DETECTED (R15, R16, R21). -/
def execBreakDetected (s : State) : Out := .next (s.event (s.line.receiving && !s.line.inBreak) State.takeBreak)

/-- HELD CHARACTER RELEASE (R15). -/
def execHeldCharacterRelease (s : State) : Out := .next (s.event (s.line.receiving && s.line.held) State.releaseHeld)

/-- GAP TIMER EXPIRY (R22, R28). -/
def execGapTimerExpiry (s : State) : Out := .next (s.expiry s.recordGapDue fun s => s.abandon .gap)

/-- REPLY READY (R42): the choice of R45 follows. -/
def execReplyReady (s : State) : Out := .next (s.expiry s.replyDue id)

/-- BREAK END (R21). -/
def execBreakEnd (s : State) : Out := .next (s.event s.line.inBreak State.endBreak)

end Sys2Proof.Machine
end

