-- ==== Sys2Proof/Machine/ExecTransmit.lean ====
section
/-!
DEFINITION. Meanings of the Line Transmitter's commands and its event: CONFIG FLOW, the Transmit Slots, SEND TEXT, SEND BREAK, and the end of an item.
-/

namespace Sys2Proof.Machine

/-- The settings CONFIG FLOW writes (R57, section 12.4). -/
def flowSettings? (p : List Byte) : Option FlowSettings := do
  let enable ← flag? (byteAt p 0)
  let high := clamp 1 256 (wordAt p 1)
  let low := clamp 0 255 (wordAt p 3)
  return { enable := enable, high := high, low := if low < high then low else high - 1
           holdCode := byteAt p 5, resumeCode := byteAt p 6 }

/-- CONFIG FLOW once its length is right (R57, R58). -/
def configFlowBody (p : List Byte) : State → State × Response :=
  field (flowSettings? p) fun x s => (s.setTx { s.tx with flowSettings := x }).flowCompare.done []

/-- CONFIG FLOW (R57). -/
def execConfigFlow (p : List Byte) (s : State) : Out := .next (s.take (checked 7 p (configFlowBody p)))

/-- Replace a slot. -/
def State.setSlot (s : State) (n : Fin 4) (x : Slot) : State := s.setTx { s.tx with slots := s.tx.slots.set n x }

/-- A slot's record may be replaced (R51). -/
def SlotState.loadable : SlotState → Bool
  | .free | .loaded | .sent | .aborted => true
  | .requested | .sending => false

/-- A slot may be requested (R52). -/
def SlotState.requestable : SlotState → Bool
  | .loaded | .sent | .aborted => true
  | .free | .requested | .sending => false

/-- The record LOAD SLOT carries (R51, R178). -/
def slotRecord? (p : List Byte) : Option Slot := do
  let route ← fin? 16 (byteAt p 1)
  let segment ← segment? (byteAt p 2)
  let _ ← lengthCode? (p.drop 3).length
  return { state := .loaded, route := route, segment := segment, payload := p.drop 3 }

/-- LOAD SLOT once its length is right (R51). -/
def loadSlotBody (p : List Byte) : State → State × Response :=
  field (fin? 4 (byteAt p 0)) fun n s =>
    if s.tx.slots[n].state.loadable then field (slotRecord? p) (fun x s => (s.setSlot n x).done []) s
    else s.refuse .busy

/-- LOAD SLOT (R51). -/
def execLoadSlot (p : List Byte) (s : State) : Out := .next (s.take (checked 3 p (loadSlotBody p)))

/-- REQUEST SLOT once its length is right (R52). -/
def requestSlotBody (p : List Byte) : State → State × Response :=
  field (fin? 4 (byteAt p 0)) fun n s =>
    if s.tx.slots[n].state.requestable then (s.setSlot n { s.tx.slots[n] with state := .requested }).done []
    else s.refuse .busy

/-- REQUEST SLOT (R52). -/
def execRequestSlot (p : List Byte) (s : State) : Out := .next (s.take (checked 1 p (requestSlotBody p)))

/-- The effect of ABORT SLOT (R54). -/
def State.abortSlot (s : State) (n : Fin 4) : State :=
  match s.tx.slots[n].state with
  | .requested => (s.setSlot n { s.tx.slots[n] with state := .aborted }).post (.slotDone n .aborted)
  | .sending => s.setSlot n { s.tx.slots[n] with abortNoted := true }
  | .free | .loaded | .sent | .aborted => s

/-- ABORT SLOT once its length is right (R54). -/
def abortSlotBody (p : List Byte) : State → State × Response :=
  field (fin? 4 (byteAt p 0)) fun n s => (s.abortSlot n).done []

/-- ABORT SLOT (R54). -/
def execAbortSlot (p : List Byte) (s : State) : Out := .next (s.take (checked 1 p (abortSlotBody p)))

/-- SEND TEXT once its length is right (R47). -/
def sendTextBody (p : List Byte) (s : State) : State × Response :=
  if p.length ≤ s.ttqRoom then (s.pushTtq p).done [] else s.refuse .full

/-- SEND TEXT (R47). -/
def execSendText (p : List Byte) (s : State) : Out := .next (s.take (checked 0 p (sendTextBody p)))

/-- SEND BREAK (R48). -/
def execSendBreak (p : List Byte) (s : State) : Out := .next (s.take (checked 0 p fun s => s.requestBreak.done []))

/-- TRANSMIT ITEM END (R44; R53, R59). -/
def execTransmitItemEnd (s : State) : Out := .next (s.expiry s.itemEnd State.endItem)

end Sys2Proof.Machine
end

