-- ==== Sys2Proof/Machine/ExecStore.lean ====
section
/-!
DEFINITION. Meanings of the Shared Store's commands and of the keyboard's commands and events.
-/

namespace Sys2Proof.Machine

/-! ## Shared Store -/

/-- WRITE STORE once its length is right (R81). -/
def writeStoreBody (p : List Byte) (s : State) : State × Response :=
  match checkStore p with
  | .short | .badField => s.refuse .badField
  | .ok w => if s.store.fits w then (s.setStore (s.store.write w)).done [] else s.refuse .full

/-- WRITE STORE (R81). -/
def execWriteStore (p : List Byte) (s : State) : Out := .next (s.take (checked 2 p (writeStoreBody p)))

/-- READ STORE once its length is right (R81). -/
def readStoreBody (p : List Byte) (s : State) : State × Response :=
  field (s.store.read (byteAt p 0) (byteAt p 1)) (fun bytes s => s.done bytes) s

/-- READ STORE (R81). -/
def execReadStore (p : List Byte) (s : State) : Out := .next (s.take (checked 2 p (readStoreBody p)))

/-- The four permissions of SET REMOTE MASK (R87). -/
def remoteMask? (p : List Byte) : Option RemoteMask := do
  let routes ← flag? (byteAt p 0)
  let softKeys ← flag? (byteAt p 1)
  let glyphs ← flag? (byteAt p 2)
  let energy ← flag? (byteAt p 3)
  return { routes := routes, softKeys := softKeys, glyphs := glyphs, energy := energy }

/-- A flag as a byte. -/
def flagByte (b : Bool) : Byte := if b then 1 else 0

/-- The mask as its four bytes (section 12.4). -/
def RemoteMask.bytes (m : RemoteMask) : List Byte :=
  [flagByte m.routes, flagByte m.softKeys, flagByte m.glyphs, flagByte m.energy]

/-- SET REMOTE MASK once its length is right (R87). -/
def setRemoteMaskBody (p : List Byte) : State → State × Response :=
  field (remoteMask? p) fun m s => (s.setStore { s.store with remoteMask := m }).done m.bytes

/-- SET REMOTE MASK (R87). -/
def execSetRemoteMask (p : List Byte) (s : State) : Out := .next (s.take (checked 4 p (setRemoteMaskBody p)))

/-! ## Keyboard -/

/-- The settings CONFIG KEYBOARD writes (R71, section 12.4). -/
def keySettings? (p : List Byte) : Option KeySettings := do
  let route ← fin? 16 (byteAt p 6)
  return { press := clamp 1 15 (byteAt p 0).toNat, release := clamp 1 15 (byteAt p 1).toNat
           delayMs := quantize 50 100 1500 (wordAt p 2), intervalMs := quantize 10 50 500 (wordAt p 4)
           route := route }

/-- CONFIG KEYBOARD once its length is right (R71). -/
def configKeyboardBody (p : List Byte) : State → State × Response :=
  field (keySettings? p) fun x s => (s.setKeys { s.keys with settings := x }).done []

/-- CONFIG KEYBOARD (R71). -/
def execConfigKeyboard (p : List Byte) (s : State) : Out := .next (s.take (checked 7 p (configKeyboardBody p)))

/-- WRITE KEYMAP once its length is right (R72). -/
def writeKeymapBody (p : List Byte) : State → State × Response :=
  field (fin? 96 (byteAt p 0)) fun k => field (layer? (byteAt p 1)) fun l =>
    field (keyAction? (byteAt p 2) (byteAt p 3)) fun a s =>
      (s.setKeys { s.keys with keymap := keymapWrite s.keys.keymap (keymapIndex k l) a }).done []

/-- WRITE KEYMAP (R72). -/
def execWriteKeymap (p : List Byte) (s : State) : Out := .next (s.take (checked 4 p (writeKeymapBody p)))

/-- READ KEYMAP once its length is right (R72). -/
def readKeymapBody (p : List Byte) : State → State × Response :=
  field (fin? 96 (byteAt p 0)) fun k => field (layer? (byteAt p 1)) fun l s => s.done (s.keys.entry k l).bytes

/-- READ KEYMAP (R72). -/
def execReadKeymap (p : List Byte) (s : State) : Out := .next (s.take (checked 2 p (readKeymapBody p)))

/-- SCAN (R61 to R70): it comes at the scan's moment. -/
def execScan (closed : BitVec 96) (s : State) : Out := .next (s.expiry (some s.keys.nextScan) fun s => s.scanMatrix closed)

/-- The effect of the repeat timer's expiry (R69). -/
def State.repeatNow (s : State) : State :=
  match s.keys.repeating with
  | some r => s.repeatExpiry r
  | none => s

/-- REPEAT TIMER EXPIRY (R69). -/
def execRepeatTimerExpiry (s : State) : Out := .next (s.expiry s.repeatDue State.repeatNow)

end Sys2Proof.Machine
end

