-- ==== Sys2Proof/Machine/ExecPrint.lean ====
section
/-!
DEFINITION. Meanings of the print commands, of the Arbiter's timers and of the Head Drive's events.
-/

namespace Sys2Proof.Machine

/-! ## Commands -/

/-- The segment a PRINT command carries: kind, style, and at most 64 codes (R115, R178). -/
def printSegment? (p : List Byte) : Option (Segment × Style × List Byte) := do
  let segment ← segment? (byteAt p 0)
  let style ← style? (byteAt p 1)
  if (p.drop 2).length ≤ 64 then return (segment, style, p.drop 2) else none

/-- PRINT once its length is right (R115). -/
def printBody (p : List Byte) : State → State × Response :=
  field (printSegment? p) fun x s =>
    if s.segmentFits .p2 x.1 x.2.1 x.2.2 then (s.admitSegment .p2 x.1 x.2.1 x.2.2).done [] else s.refuse .full

/-- PRINT (R115). -/
def execPrint (p : List Byte) (s : State) : Out := .next (s.take (checked 2 p (printBody p)))

/-- CANCEL JOB once its length is right (R122). -/
def cancelJobBody (p : List Byte) : State → State × Response :=
  field (jobPort? (byteAt p 0)) fun port s => (s.cancelJob port).done []

/-- CANCEL JOB (R122). -/
def execCancelJob (p : List Byte) (s : State) : Out := .next (s.take (checked 1 p (cancelJobBody p)))

/-- Set or clear Pause (R125). -/
def State.setPause (s : State) (x : Bool) : State := s.setArb { s.arb with pause := x }

/-- PAUSE PRINT (R125). -/
def execPausePrint (p : List Byte) (s : State) : Out := .next (s.take (checked 0 p fun s => (s.setPause true).done []))

/-- RESUME PRINT (R125). -/
def execResumePrint (p : List Byte) (s : State) : Out := .next (s.take (checked 0 p fun s => (s.setPause false).done []))

/-- Every print setting (R128, R140, R155, R162). -/
structure PrintSettings where
  arbiter : ArbiterSettings
  composer : ComposerSettings
  speed : Fin 4
  dotLimit : Nat
  otLimit : Nat
  deriving DecidableEq, Repr

/-- The settings CONFIG PRINT writes (R128, section 12.4). -/
def printSettings? (p : List Byte) : Option PrintSettings := do
  let speed ← fin? 4 (byteAt p 7)
  let cr ← crMode? (byteAt p 14)
  return { arbiter := { prio0 := clamp 0 3 (byteAt p 0).toNat, prio1 := clamp 0 3 (byteAt p 1).toNat
                        prio2 := clamp 0 3 (byteAt p 2).toNat, prio3 := clamp 0 3 (byteAt p 3).toNat
                        partialMs := quantize 100 100 3000 (wordAt p 4), stallS := clamp 1 30 (byteAt p 6).toNat }
           composer := { crMode := cr, lineGap := clamp 0 12 (byteAt p 11).toNat, tear := clamp 0 255 (wordAt p 12) }
           speed := speed
           dotLimit := quantize 16 16 384 (wordAt p 8)
           otLimit := quantize 5 50 80 (byteAt p 10).toNat }

/-- The print settings are written together. -/
def State.writePrint (s : State) (x : PrintSettings) : State :=
  (((s.setArb { s.arb with settings := x.arbiter }).setComp { s.comp with settings := x.composer }).setHead
    { s.head with speed := x.speed, dotLimit := x.dotLimit }).setMon { s.mon with otLimit := x.otLimit }

/-- The new Job Stall Timeout against a running stall timer (R128). -/
def State.compareStall (s : State) : State :=
  match s.arb.hold with
  | some p => if s.stallDue then s.stallJob p else s
  | none => s

/-- The effect of CONFIG PRINT: the settings, then their comparisons at once (R117, R128, R149, R162; log 14). -/
def State.configPrint (s : State) (x : PrintSettings) : State :=
  (s.writePrint x).watchStall.compareStall.recomputeLimit.compareThermal

/-- CONFIG PRINT once its length is right (R128). -/
def configPrintBody (p : List Byte) : State → State × Response :=
  field (printSettings? p) fun x s => (s.configPrint x).done []

/-- CONFIG PRINT (R128). -/
def execConfigPrint (p : List Byte) (s : State) : Out := .next (s.take (checked 15 p (configPrintBody p)))

/-! ## Timers of the Arbiter -/

/-- PARTIAL LINE EXPIRY (R117): the port is eligible by age and the grant may follow. -/
def execPartialLineExpiry (port : PortId) (s : State) : Out := .next (s.expiry (s.partialDue port) id)

/-- The holding job stalls (R121). -/
def State.stallHolder (s : State) : State :=
  match s.arb.hold with
  | some p => s.stallJob p
  | none => s

/-- JOB STALL EXPIRY (R121). -/
def execJobStallExpiry (s : State) : Out := .next (s.expiry s.stallEnd State.stallHolder)

/-! ## The Head Drive -/

/-- The phase that fires ends: the next phase fires, or the row advances, or it ends (R151, R153). -/
def State.endPhase (s : State) : State :=
  match s.head.row with
  | none => s
  | some r =>
    match r.phases.tail with
    | next :: rest =>
      s.setHead { s.head with row := some { r with phases := next :: rest
                                                   phaseEnd := r.phaseEnd + next.duration * Config.unitsPerUs } }
    | [] =>
      if r.periodEnd ≤ r.phaseEnd then s.endRow
      else (s.setHead { s.head with row := some { r with phases := [] } }).moveHead .advancing

/-- PHASE END (R151). -/
def execPhaseEnd (s : State) : Out := .next (s.expiry s.phaseDue State.endPhase)

/-- ROW PERIOD END (R153). -/
def execRowPeriodEnd (s : State) : Out := .next (s.expiry s.rowDue State.endRow)

/-- The settle time is over (R153, R154). -/
def State.endSettle (s : State) : State := (s.setHead { s.head with settle := none }).nextRow

/-- SETTLE EXPIRY (R154). -/
def execSettleExpiry (s : State) : Out := .next (s.expiry s.settleDue State.endSettle)

end Sys2Proof.Machine
end

