-- ==== Sys2Proof/Machine/ExecPort.lean ====
section
/-!
DEFINITION. Meanings of power-on, of the Controller Port's own commands, of the Monitor's commands and events, and of a selection given as bytes.
-/

namespace Sys2Proof.Machine

/-! ## Power-on and NONE -/

/-- POWER ON (R176, R167). -/
def execPowerOn (paper lid : Bool) (supply : BitVec 16) (therm : Int) (s : State) : Out :=
  .next (s.powerOn paper lid supply therm)

/-- NONE (R170): its payload is ignored, whatever its length. -/
def execNone (_p : List Byte) (s : State) : Out := .next (s.wake .command).finishEvent

/-! ## Reading -/

/-- READ QUEUE once its length is right (R171). -/
def readQueueBody (p : List Byte) (s : State) : State × Response :=
  let r := packQueue (queueCount (byteAt p 0)) 72 s.crq
  (s.setCrq r.2).done r.1

/-- READ QUEUE (R171). -/
def execReadQueue (p : List Byte) (s : State) : Out := .next (s.take (checked 1 p (readQueueBody p)))

/-- READ STATUS (R172). -/
def execReadStatus (p : List Byte) (s : State) : Out := .next (s.take (checked 0 p fun s => s.done s.statusResponse))

/-! ## Causes, mask, resets -/

/-- CLEAR CAUSES once its length is right (R173). -/
def clearCausesBody (p : List Byte) : State → State × Response :=
  field (causeSet? (wordAt p 0)) fun x s => (s.clearCauses x).done (wordBytes (s.clearCauses x).port.causes.toNat)

/-- CLEAR CAUSES (R173). -/
def execClearCauses (p : List Byte) (s : State) : Out := .next (s.take (checked 2 p (clearCausesBody p)))

/-- SET ATTN MASK once its length is right (R174). -/
def setAttnMaskBody (p : List Byte) : State → State × Response :=
  field (causeSet? (wordAt p 0)) fun x s => (s.setPort { s.port with mask := x }).done (wordBytes x.toNat)

/-- SET ATTN MASK (R174). -/
def execSetAttnMask (p : List Byte) (s : State) : Out := .next (s.take (checked 2 p (setAttnMaskBody p)))

/-- RESET UNIT once its length is right (R175). -/
def resetUnitBody (p : List Byte) : State → State × Response :=
  field (resetScope? (byteAt p 0)) fun x s => (s.resetUnit x).done []

/-- RESET UNIT (R175). -/
def execResetUnit (p : List Byte) (s : State) : Out := .next (s.take (checked 1 p (resetUnitBody p)))

/-! ## Doze -/

/-- DOZE once its length is right (R164). -/
def dozeBody (s : State) : State × Response := if s.mayDoze then s.enterDoze.done [] else s.refuse .busy

/-- DOZE (R164). -/
def execDoze (p : List Byte) (s : State) : Out := .next (s.take (checked 0 p dozeBody))

/-! ## Sensors, supply, temperature -/

/-- SENSOR INPUT CHANGE (R158). -/
def execSensorInputChange (sensor : Sensor) (level : Bool) (s : State) : Out :=
  .next (s.event true fun s => s.inputChange sensor level)

/-- SENSOR STABLE EXPIRY (R158). -/
def execSensorStableExpiry (sensor : Sensor) (s : State) : Out :=
  .next (s.expiry (s.stableDue sensor) fun s => s.inputStable sensor)

/-- SUPPLY SAMPLE (R159, R160): it comes at the sample's moment. -/
def execSupplySample (sample : BitVec 16) (s : State) : Out :=
  .next (s.expiry (some s.supplyDue) fun s => (s.setPins { s.pins with supply := sample }).sampleSupply)

/-- THERMISTOR READING (R161, R162), where readings are taken: it comes at the reading's moment. -/
def execThermistorReading (reading : Int) (s : State) : Out :=
  .next (s.expiry (whenever s.thermRuns (some s.thermDue)) fun s => (s.setPins { s.pins with therm := reading }).readThermistor)

/-! ## Selections as bytes -/

/-- The command a complete selection spells is taken (R168, R178). -/
def execSelected (c : Instr) (s : State) : Out :=
  match c with
  | .noneCommand p => execNone p s
  | .configLine p => execConfigLine p s
  | .lineOn p => execLineOn p s
  | .lineOff p => execLineOff p s
  | .setFilter p => execSetFilter p s
  | .setMask p => execSetMask p s
  | .setDefaultAction p => execSetDefaultAction p s
  | .configFlow p => execConfigFlow p s
  | .loadSlot p => execLoadSlot p s
  | .requestSlot p => execRequestSlot p s
  | .abortSlot p => execAbortSlot p s
  | .sendText p => execSendText p s
  | .sendBreak p => execSendBreak p s
  | .writeStore p => execWriteStore p s
  | .readStore p => execReadStore p s
  | .setRemoteMask p => execSetRemoteMask p s
  | .configKeyboard p => execConfigKeyboard p s
  | .writeKeymap p => execWriteKeymap p s
  | .readKeymap p => execReadKeymap p s
  | .print p => execPrint p s
  | .cancelJob p => execCancelJob p s
  | .pausePrint p => execPausePrint p s
  | .resumePrint p => execResumePrint p s
  | .configPrint p => execConfigPrint p s
  | .readQueue p => execReadQueue p s
  | .readStatus p => execReadStatus p s
  | .clearCauses p => execClearCauses p s
  | .setAttnMask p => execSetAttnMask p s
  | .resetUnit p => execResetUnit p s
  | .doze p => execDoze p s
  | _ => .next s

/-- SHORT SELECTION (R168): a selection too short is discarded with BAD FIELD; a complete one is taken as the command its code spells, or answered UNKNOWN (R169, R178; log 9). -/
def execShortSelection (bytes : List Byte) (s : State) : Out :=
  if selectionShort bytes then .next (s.respond { result := .badField })
  else match selectionCommand bytes with
    | some c => execSelected c s
    | none => .next (s.take (fun s => s.refuse .unknown))

end Sys2Proof.Machine
end

