-- ==== Sys2Proof/Machine/Dispatch.lean ====
section
/-!
DEFINITION. The dispatch: one arm per command, one meaning per arm.
-/

namespace Sys2Proof.Machine

def exec (i : Instr) (s : State) : Host.Outcome State Fault Refusal :=
  match i with
  | .powerOn paper lid supply therm => Sys2Proof.Machine.execPowerOn paper lid supply therm s
  | .shortSelection bytes => Sys2Proof.Machine.execShortSelection bytes s
  | .noneCommand payload => Sys2Proof.Machine.execNone payload s
  | .configLine payload => Sys2Proof.Machine.execConfigLine payload s
  | .lineOn payload => Sys2Proof.Machine.execLineOn payload s
  | .lineOff payload => Sys2Proof.Machine.execLineOff payload s
  | .setFilter payload => Sys2Proof.Machine.execSetFilter payload s
  | .setMask payload => Sys2Proof.Machine.execSetMask payload s
  | .setDefaultAction payload => Sys2Proof.Machine.execSetDefaultAction payload s
  | .configFlow payload => Sys2Proof.Machine.execConfigFlow payload s
  | .loadSlot payload => Sys2Proof.Machine.execLoadSlot payload s
  | .requestSlot payload => Sys2Proof.Machine.execRequestSlot payload s
  | .abortSlot payload => Sys2Proof.Machine.execAbortSlot payload s
  | .sendText payload => Sys2Proof.Machine.execSendText payload s
  | .sendBreak payload => Sys2Proof.Machine.execSendBreak payload s
  | .writeStore payload => Sys2Proof.Machine.execWriteStore payload s
  | .readStore payload => Sys2Proof.Machine.execReadStore payload s
  | .setRemoteMask payload => Sys2Proof.Machine.execSetRemoteMask payload s
  | .configKeyboard payload => Sys2Proof.Machine.execConfigKeyboard payload s
  | .writeKeymap payload => Sys2Proof.Machine.execWriteKeymap payload s
  | .readKeymap payload => Sys2Proof.Machine.execReadKeymap payload s
  | .print payload => Sys2Proof.Machine.execPrint payload s
  | .cancelJob payload => Sys2Proof.Machine.execCancelJob payload s
  | .pausePrint payload => Sys2Proof.Machine.execPausePrint payload s
  | .resumePrint payload => Sys2Proof.Machine.execResumePrint payload s
  | .configPrint payload => Sys2Proof.Machine.execConfigPrint payload s
  | .readQueue payload => Sys2Proof.Machine.execReadQueue payload s
  | .readStatus payload => Sys2Proof.Machine.execReadStatus payload s
  | .clearCauses payload => Sys2Proof.Machine.execClearCauses payload s
  | .setAttnMask payload => Sys2Proof.Machine.execSetAttnMask payload s
  | .resetUnit payload => Sys2Proof.Machine.execResetUnit payload s
  | .doze payload => Sys2Proof.Machine.execDoze payload s
  | .carrierAppears => Sys2Proof.Machine.execCarrierAppears s
  | .carrierEnds => Sys2Proof.Machine.execCarrierEnds s
  | .qualifyTimeExpiry => Sys2Proof.Machine.execQualifyTimeExpiry s
  | .qualifyDropoutExpiry => Sys2Proof.Machine.execQualifyDropoutExpiry s
  | .lossDelayExpiry => Sys2Proof.Machine.execLossDelayExpiry s
  | .fadeReturn => Sys2Proof.Machine.execFadeReturn s
  | .fadeDropExpiry => Sys2Proof.Machine.execFadeDropExpiry s
  | .ta1200DropExpiry => Sys2Proof.Machine.execTa1200DropExpiry s
  | .turnaroundGapExpiry => Sys2Proof.Machine.execTurnaroundGapExpiry s
  | .leadInEnd => Sys2Proof.Machine.execLeadInEnd s
  | .talkLimitExpiry => Sys2Proof.Machine.execTalkLimitExpiry s
  | .tailEnd => Sys2Proof.Machine.execTailEnd s
  | .characterReceived data parity stop edge => Sys2Proof.Machine.execCharacterReceived data parity stop edge s
  | .breakDetected => Sys2Proof.Machine.execBreakDetected s
  | .heldCharacterRelease => Sys2Proof.Machine.execHeldCharacterRelease s
  | .gapTimerExpiry => Sys2Proof.Machine.execGapTimerExpiry s
  | .replyReady => Sys2Proof.Machine.execReplyReady s
  | .transmitItemEnd => Sys2Proof.Machine.execTransmitItemEnd s
  | .scan closed => Sys2Proof.Machine.execScan closed s
  | .repeatTimerExpiry => Sys2Proof.Machine.execRepeatTimerExpiry s
  | .partialLineExpiry port => Sys2Proof.Machine.execPartialLineExpiry port s
  | .jobStallExpiry => Sys2Proof.Machine.execJobStallExpiry s
  | .phaseEnd => Sys2Proof.Machine.execPhaseEnd s
  | .rowPeriodEnd => Sys2Proof.Machine.execRowPeriodEnd s
  | .settleExpiry => Sys2Proof.Machine.execSettleExpiry s
  | .sensorInputChange sensor level => Sys2Proof.Machine.execSensorInputChange sensor level s
  | .sensorStableExpiry sensor => Sys2Proof.Machine.execSensorStableExpiry sensor s
  | .supplySample sample => Sys2Proof.Machine.execSupplySample sample s
  | .thermistorReading reading => Sys2Proof.Machine.execThermistorReading reading s
  | .breakEnd => Sys2Proof.Machine.execBreakEnd s

end Sys2Proof.Machine
end

