-- ==== Sys2Proof/Machine/Idle.lean ====
section
/-!
DEFINITION. What the part does of itself when no command waits: an own timer that is due expires, or time passes (log 2). The earliest goes first; of several due at one moment, which does is free (log 4).
-/

namespace Sys2Proof.Machine

/-- The part's own timers. -/
inductive Timer
  | qualify
  | dropout
  | loss
  | back
  | fadeDrop
  | turnDrop
  | recordGap
  | leadIn
  | tail
  | item
  | repeating
  | stall
  | phase
  | row
  | settle
  | paper
  | lid
  deriving DecidableEq, Repr

/-- Every own timer. -/
def allTimers : List Timer :=
  [.qualify, .dropout, .loss, .back, .fadeDrop, .turnDrop, .recordGap, .leadIn, .tail, .item, .repeating, .stall, .phase, .row,
   .settle, .paper, .lid]

/-- The moment the record's gap timer expires of itself (R22): when it is due. Where a start bit is under way then, which is free (log 12), its edge has stopped the timer; the model counts the Gap error one character time later, if no character or Break has come by then. -/
def State.gapCertain (s : State) : Option Nat :=
  s.recordGapDue.map fun due =>
    if s.line.receiving && Config.startBit due then due + charTime s.line.settings.speed else due

/-- The moment a timer expires, if it is running. -/
def State.timerDue (s : State) : Timer → Option Nat
  | .qualify => s.qualifyDue
  | .dropout => s.dropoutDue
  | .loss => s.lossDue
  | .back => s.returnDue
  | .fadeDrop => s.fadeDropDue
  | .turnDrop => s.turnDropDue
  | .recordGap => s.gapCertain
  | .leadIn => s.leadInDue
  | .tail => s.tailDue
  | .item => s.itemEnd
  | .repeating => s.repeatDue
  | .stall => s.stallEnd
  | .phase => s.phaseDue
  | .row => s.rowDue
  | .settle => s.settleDue
  | .paper => s.stableDue .paper
  | .lid => s.stableDue .lid

/-- The command of the table that is a timer's expiry. -/
def Timer.command : Timer → Instr
  | .qualify => .qualifyTimeExpiry
  | .dropout => .qualifyDropoutExpiry
  | .loss => .lossDelayExpiry
  | .back => .fadeReturn
  | .fadeDrop => .fadeDropExpiry
  | .turnDrop => .ta1200DropExpiry
  | .recordGap => .gapTimerExpiry
  | .leadIn => .leadInEnd
  | .tail => .tailEnd
  | .item => .transmitItemEnd
  | .repeating => .repeatTimerExpiry
  | .stall => .jobStallExpiry
  | .phase => .phaseEnd
  | .row => .rowPeriodEnd
  | .settle => .settleExpiry
  | .paper => .sensorStableExpiry .paper
  | .lid => .sensorStableExpiry .lid

/-- The timer has reached its end. -/
def State.timerReady (s : State) (t : Timer) : Bool :=
  match s.timerDue t with
  | some d => d ≤ s.now
  | none => false

/-- The first timer is due before the second. -/
def State.dueBefore (s : State) (t u : Timer) : Bool :=
  match s.timerDue t, s.timerDue u with
  | some d, some e => d < e
  | _, _ => false

/-- The timers that have reached their end and that none is due before: each expires at its moment, also where a command took the clock past several. -/
def State.ready (s : State) : List Timer :=
  allTimers.filter fun t => s.timerReady t && !allTimers.any fun u => s.dueBefore u t

/-- The one that expires now: with several due at one moment, the free choice (log 4). -/
def State.pick (s : State) (first : Timer) (others : List Timer) : State × Timer :=
  match others with
  | [] => (s, first)
  | _ :: _ =>
    (s.setChoices (s.choices + 1), ((first :: others)[Config.timerOrder s.choices % (others.length + 1)]?).getD first)

/-- The step on an empty queue (log 2): a due timer expires, else one unit of time passes and what the clock alone makes possible follows. So an age that reaches the Partial Line Timeout, the Turnaround Gap, the Talk Limit and a reply's moment come before an own timer due at the same moment; of a stall expiry and the partial-line expiry of the holding port, which R121 lets come in either order, the age comes first and discards the stall timer (DESIGN CHOICE, log 33). -/
def idle (s : State) : Host.Outcome State Fault Refusal :=
  match s.ready with
  | [] => .next (s.setNow (s.now + 1)).finishEvent
  | first :: others => exec (s.pick first others).2.command (s.pick first others).1

end Sys2Proof.Machine
end

