-- ==== Sys2Proof/Safety.lean ====
section
/-!
DEFINITION. What must hold in every state of a run: the bounds of the queues and lists, the account of the ports' cells, the soft-key pool, the agreement of line and direction states, and what the follow-ups of an event leave as it was.
-/

namespace Sys2Proof.Machine

/-- A port holds no more than its capacity, and its cells admitted equal those composed, discarded and held (R110, R111). -/
structure Port.Ok (x : Port) (capacity : Nat) : Prop where
  bound : x.cells.length ≤ capacity
  account : x.admitted = x.composed + x.discarded + x.cells.length

/-- The soft-key strings keep to their pool (R84). -/
structure Store.PoolOk (st : Store) : Prop where
  total : st.poolTotal ≤ 320
  each : ∀ n : Fin 12, st.softKeys[n].string.length ≤ 64

/-- No queue or list holds more than its capacity, every port's cells are accounted for, and the soft-key pool is kept to (R63, R68, R84, R94, R99, R103, R110, R111, R137). -/
structure State.Sound (s : State) : Prop where
  rtq : s.rtq.length ≤ 256
  crq : s.crq.length ≤ 64
  ttq : s.tx.ttq.length ≤ 128
  down : s.keys.down.length ≤ 6
  events : s.keys.events.length ≤ 24
  p0 : s.arb.p0.Ok 160
  p1 : s.arb.p1.Ok 32
  p2 : s.arb.p2.Ok 96
  p3 : s.arb.p3.Ok 96
  rows : s.comp.rows.length ≤ 4
  pool : s.store.PoolOk

/-- Line state, direction state, flow state, reception and transmission agree (R8, R9, R14, R18, R20, R58; section 1.4). -/
structure State.LineOk (s : State) : Prop where
  /-- A direction state exists exactly in TA1200 ONLINE. -/
  direction : s.line.direction.isSome = (s.line.state == .online && s.line.settings.speed == .ta1200)
  /-- FADE is used in SB300 only. -/
  fade : s.line.state = .fade → s.line.settings.speed = .sb300
  /-- Without a connection the flow state is FLOWING. -/
  flow : s.line.connected = false → s.tx.flow = .flowing
  /-- Without a connection nothing is on the line and no Break is pending. -/
  progress : s.line.connected = false → s.tx.progress = .idle ∧ s.tx.breakPending = false
  /-- A record is in reception only in ONLINE and in 8N1. -/
  record : s.engine.rx ≠ .text → s.line.state = .online ∧ s.line.settings.format = .f8N1

/-- Two route entries that differ in their sinks' Print member and Overflow flag at most (R77, R83). -/
def Route.sameBut (a b : Route) : Prop :=
  { b with print := a.print, overflow := a.overflow } = a

/-- What the follow-ups of an event leave as it was: `b` agrees with `a` on every setting, on the clock, on the pins, on the line state, on reception, on the scanner, on the readings and holds, and on the port's buffer and mask; of the RTQ and the Key Event List they take from the head only, to the CRQ they append only, and they only raise causes. -/
structure State.Kept (a b : State) : Prop where
  now : b.now = a.now
  pins : b.pins = a.pins
  settings : b.line.settings = a.line.settings
  lineState : b.line.state = a.line.state
  trim : b.line.trim = a.line.trim
  collisions : b.line.collisions = a.line.collisions
  rx : b.engine.rx = a.engine.rx
  record : b.engine.record = a.engine.record
  gap : b.engine.gap = a.engine.gap
  counts : b.engine.counts = a.engine.counts
  filters : b.engine.filters = a.engine.filters
  masks : b.engine.masks = a.engine.masks
  default : b.engine.default = a.engine.default
  flowSettings : b.tx.flowSettings = a.tx.flowSettings
  keys : { b.keys with events := a.keys.events } = a.keys
  softKeys : b.store.softKeys = a.store.softKeys
  glyphs : b.store.glyphs = a.store.glyphs
  energy : b.store.energy = a.store.energy
  remoteMask : b.store.remoteMask = a.store.remoteMask
  routes : ∀ n : Fin 16, (a.store.route n).sameBut (b.store.route n)
  pause : b.arb.pause = a.arb.pause
  arbiter : b.arb.settings = a.arb.settings
  composer : b.comp.settings = a.comp.settings
  speed : b.head.speed = a.head.speed
  dotLimit : b.head.dotLimit = a.head.dotLimit
  limit : b.head.limit = a.head.limit
  monitor : { b.mon with supplyOwed := a.mon.supplyOwed, thermOwed := a.mon.thermOwed } = a.mon
  response : b.port.response = a.port.response
  selection : b.port.selection = a.port.selection
  mask : b.port.mask = a.port.mask
  causes : a.port.causes &&& b.port.causes = a.port.causes
  pending : b.pending = a.pending
  rtq : b.rtq <:+ a.rtq
  crq : a.crq <+: b.crq
  events : b.keys.events <:+ a.keys.events

/-- An event made `a`, and its follow-ups gave `t`: `t` is `a` with every follow-up, they kept what `Kept` lists, and where no block had anything left to do, `t` is `a`. -/
structure State.Settled (a t : State) : Prop where
  ends : t = a.finishEvent
  kept : a.Kept t
  same : a.quiet = true → t = a

/-- The Head Drive of `t` is the Head Drive `h`, L aside, once the holds in force at `t` have been compared at that moment (R153, R154, R163): IDLE and SETTLE go to HOLD under a hold, the settle timer discarded; HOLD goes to SETTLE with its timer from zero when none is in force any more; a row under way runs on; else nothing moves. -/
structure State.HeadFollows (t : State) (h : Head) : Prop where
  fromIdle : t.mon.anyHold = true → h.state = .idle → t.head = { h with state := .hold, limit := t.head.limit }
  fromSettle : t.mon.anyHold = true → h.state = .settle → t.head = { h with state := .hold, settle := none, limit := t.head.limit }
  stays : t.mon.anyHold = true → h.state = .hold → t.head = { h with limit := t.head.limit }
  clears : t.mon.anyHold = false → h.state = .hold →
    t.head = { h with state := .settle, settle := some t.now, limit := t.head.limit }
  free : t.mon.anyHold = false → h.state = .idle ∨ h.state = .settle → t.head = { h with limit := t.head.limit }
  runsOn : h.state = .firing ∨ h.state = .advancing → t.head = { h with limit := t.head.limit }

/-- The command completes: on `s` it answers a next state, which is `a` settled. -/
def Completes (c : Instr) (s a : State) : Prop := ∃ t, exec c s = .next t ∧ a.Settled t

/-- The thirty commands of the Controller Port (section 12.4), all with one payload. -/
def controllerCommands (p : List Byte) : List Instr :=
  [.noneCommand p, .configLine p, .lineOn p, .lineOff p, .setFilter p, .setMask p, .setDefaultAction p, .configFlow p,
   .loadSlot p, .requestSlot p, .abortSlot p, .sendText p, .sendBreak p, .writeStore p, .readStore p]
    ++ [.setRemoteMask p, .configKeyboard p, .writeKeymap p, .readKeymap p, .print p, .cancelJob p, .pausePrint p,
        .resumePrint p, .configPrint p, .readQueue p, .readStatus p, .clearCauses p, .setAttnMask p, .resetUnit p, .doze p]

/-- The commands that have a response of their own, each with the bytes of its fixed fields (section 12.4, R178). -/
def fixedFields (p : List Byte) : List (Instr × Nat) :=
  [(.configLine p, 16), (.lineOn p, 0), (.lineOff p, 0), (.setFilter p, 8), (.setMask p, 4), (.setDefaultAction p, 2),
   (.configFlow p, 7), (.loadSlot p, 3), (.requestSlot p, 1), (.abortSlot p, 1), (.sendText p, 0), (.sendBreak p, 0),
   (.writeStore p, 2), (.readStore p, 2), (.setRemoteMask p, 4)]
    ++ [(.configKeyboard p, 7), (.writeKeymap p, 4), (.readKeymap p, 2), (.print p, 2), (.cancelJob p, 1),
        (.pausePrint p, 0), (.resumePrint p, 0), (.configPrint p, 15), (.readQueue p, 1), (.readStatus p, 0),
        (.clearCauses p, 2), (.setAttnMask p, 2), (.resetUnit p, 1), (.doze p, 0)]

/-- The paper rows of a Row Queue entry (R137). -/
def RowEntry.rows : RowEntry → Nat
  | .dots _ => 1
  | .feed n => n

end Sys2Proof.Machine
end

