-- ==== Sys2Proof/Certificates/Slice0/Obligations.lean ====
section
/-!
DEFINITION. The statements for the provers. `Completes c s a` (Safety) says that `c` on `s` answers a next state, and that this state is `a` with the follow-ups of the event: `a` itself where no block has anything left to do.
In the statements about controller commands, `s.wake .command` is the state after the wake of R166: `s` itself in Run.
-/

section Statements
open Sys2Proof Sys2Proof.Machine

/-! ## Steps, power-on and the Controller Port -/

/-- A step takes the command at the front of the queue. -/
def Obligations.StepTakesFrontCommand : Prop :=
  ∀ (c : Instr) (rest : List Instr) (s : State), step (s.setPending (c :: rest)) = exec c (s.setPending rest)

/-- On an empty queue (log 2, log 4, log 33: the model's choice): time passes by one unit, or a due timer expires, the earliest due one first; with several due at one moment the free choice is used. -/
def Obligations.StepOnEmptyQueue : Prop :=
  ∀ s : State, s.pending = [] →
    (s.ready = [] → step s = .next (s.setNow (s.now + 1)).finishEvent)
    ∧ (∀ t, s.ready = [t] → step s = exec t.command s)
    ∧ (∀ t u rest, s.ready = t :: u :: rest →
        ∃ v ∈ s.ready, step s = exec v.command (s.setChoices (s.choices + 1)))
    ∧ (∀ t, t ∈ s.ready ↔ ∃ d, s.timerDue t = some d ∧ d ≤ s.now ∧ ∀ u e, s.timerDue u = some e → d ≤ e)

/-- Power-on gives every block the values its chapter lists. The clock, the count of choices, the carrier and the queue of commands go on (log 23: the model's choice). -/
def Obligations.PowerOnValues : Prop :=
  ∀ (paper lid : Bool) (v : BitVec 16) (r : Int) (s : State), ∃ t, exec (.powerOn paper lid v r) s = .next t
    ∧ (t.line.state = .off ∧ t.line.direction = none ∧ t.line.timers = {} ∧ t.line.trim = none ∧ t.line.held = false
      ∧ t.line.inBreak = false ∧ t.line.collisions = 0
      ∧ t.line.settings = { speed := .sb300, role := .originate, format := .f8N1, station := 0, textRoute := 0
                            substitute := 0x7F, qualifyMs := 400, lossMs := 60, dropMs := 1600, gapMs := 60, talkMs := 2000 })
    ∧ (t.engine.rx = .text ∧ t.engine.gap = none ∧ t.engine.reply = none
      ∧ t.engine.counts = { marker := 0, header := 0, gap := 0, framing := 0, crc := 0 }
      ∧ t.engine.record = { kind := 0, lenCode := 0, station := 0, stationUpper := false, route := 0, segment := .whole
                            ack := false, routeUpper := false, payload := [], crc := 0, crcLow := none }
      ∧ (∀ n : Fin 8, t.engine.filters[n]
          = { enable := false, kind := 0, route := 0, segment := 0, mask := 0, action := .refuse, report := false })
      ∧ (∀ n : Fin 4, t.engine.masks[n] = { kind := 0, route := 0, segment := 0 })
      ∧ t.engine.default = { action := .refuse, report := false })
    ∧ (t.tx.progress = .idle ∧ t.tx.breakPending = false ∧ t.tx.ttq = [] ∧ t.tx.flow = .flowing
      ∧ (∀ n : Fin 4, t.tx.slots[n] = { state := .free, route := 0, segment := .whole, payload := [], abortNoted := false })
      ∧ t.tx.flowSettings = { enable := true, high := 192, low := 64, holdCode := 0x13, resumeCode := 0x11 })
    ∧ (t.keys.down = [] ∧ t.keys.counts = List.replicate 96 0 ∧ t.keys.awaiting = 0 ∧ t.keys.lock = false
      ∧ t.keys.repeating = none ∧ t.keys.events = [] ∧ (∀ k l, t.keys.entry k l = .report)
      ∧ t.keys.settings = { press := 3, release := 5, delayMs := 500, intervalMs := 100, route := 1 })
    ∧ (t.store.route 0 = { print := true } ∧ t.store.route 1 = { transmit := true, print := true }
      ∧ t.store.route 2 = { controller := true } ∧ (∀ n : Fin 16, 3 ≤ n.val → t.store.route n = {})
      ∧ (∀ n : Fin 12, t.store.softKeys[n] = { string := [], route := 1 })
      ∧ (∀ n : Fin 32, t.store.glyphs[n] = { valid := false, pattern := 0 })
      ∧ t.store.energy.toList = [1400, 1250, 1110, 980, 860, 750, 650, 560, 4, 16, 0, 0, 0, 0, 0, 0]
      ∧ t.store.remoteMask = { routes := false, softKeys := true, glyphs := true, energy := false })
    ∧ (∀ p : PortId, t.arb.port p = { cells := [], admitted := 0, composed := 0, discarded := 0 })
    ∧ (t.arb.job2 = .none ∧ t.arb.job3 = .none ∧ t.arb.hold = none ∧ t.arb.pause = false ∧ t.arb.lastGranted = .p3
      ∧ t.arb.stall = none
      ∧ t.arb.settings = { prio0 := 2, prio1 := 3, prio2 := 1, prio3 := 1, partialMs := 800, stallS := 5 })
    ∧ (t.comp.line = none ∧ t.comp.rows = [] ∧ t.comp.settings = { crMode := .ignore, lineGap := 4, tear := 96 })
    ∧ (t.head.inHand = .none ∧ t.head.row = none ∧ t.head.history = 0 ∧ t.head.idleSince = none ∧ t.head.settle = none
      ∧ t.head.speed = 1 ∧ t.head.dotLimit = 96 ∧ t.mon.otLimit = 65)
    ∧ (t.port.selection = none ∧ t.port.response = { result := .done, payload := [] } ∧ t.port.mask = 0)
    ∧ (t.pending = s.pending ∧ t.now = s.now ∧ t.choices = s.choices ∧ t.pins.carrier = s.pins.carrier)

/-- The readings of power-on: sensed states at once, one supply sample in all four places, one thermistor reading, the holds with their causes, the power state Run. That the first scan comes 4 ms after power-on is log 8, the model's choice. -/
def Obligations.PowerOnReadings : Prop :=
  ∀ (paper lid : Bool) (v : BitVec 16) (r : Int) (s : State), ∃ t, exec (.powerOn paper lid v r) s = .next t
    ∧ t.mon.paper = { value := paper, stable := none } ∧ t.mon.lid = { value := lid, stable := none }
    ∧ (t.mon.paperHold = true ↔ paper = false ∨ lid = false)
    ∧ t.mon.samples = { a := v.toNat, b := v.toNat, c := v.toNat, d := v.toNat } ∧ t.mon.supply = v.toNat
    ∧ (t.mon.supplyHold = true ↔ v.toNat < 560)
    ∧ (-30 ≤ r ∧ r ≤ 100 → t.mon.temp = r ∧ t.mon.fallback = false)
    ∧ (r < -30 ∨ 100 < r → t.mon.temp = 25 ∧ t.mon.fallback = true)
    ∧ (t.mon.thermalHold = true ↔ 65 < r ∧ r ≤ 100)
    ∧ t.mon.power = .run ∧ t.mon.lastSupply = s.now ∧ t.mon.lastTherm = s.now ∧ t.keys.nextScan = s.now + 12000
    ∧ t.head.state = (if t.mon.paperHold = true ∨ t.mon.supplyHold = true ∨ t.mon.thermalHold = true then .hold else .idle)
    ∧ t.head.limit = dotLimitOf 96 v.toNat t.mon.fallback
    ∧ namesCause t.port.causes .paperHold = t.mon.paperHold ∧ namesCause t.port.causes .supplyHold = t.mon.supplyHold
    ∧ namesCause t.port.causes .thermalHold = t.mon.thermalHold ∧ namesCause t.port.causes .sensorFallback = t.mon.fallback

/-- R107: after power-on both text queues are empty, and no cause but the Monitor's is set. -/
def Obligations.PowerOnEmptiesTextQueues : Prop :=
  ∀ (paper lid : Bool) (v : BitVec 16) (r : Int) (s : State), ∃ t, exec (.powerOn paper lid v r) s = .next t
    ∧ t.rtq = [] ∧ t.routeTakes = false ∧ t.crq = []
    ∧ ∀ c ∈ [Cause.keyLost, .noticeLost, .jobError, .lineLost, .recordError, .routeOverflow], namesCause t.port.causes c = false

/-- R170: NONE is taken whatever its payload, wakes a dozing part, and leaves the response buffer as it was. -/
def Obligations.NoneLeavesResponse : Prop :=
  ∀ (p q : List Byte) (s : State), exec (.noneCommand p) s = exec (.noneCommand q) s
    ∧ Completes (.noneCommand p) s (s.wake .command)
    ∧ ∃ t, exec (.noneCommand p) s = .next t ∧ t.mon.power = .run ∧ t.port.response = s.port.response

/-- What a selection shifts out of the response buffer: the result byte, the length byte, the payload, and 00h from then on. A selection too short is discarded with BAD FIELD and nothing else, one with the code of NONE like any other (log 35: the model's reading of R168 beside R170); a complete one is the command its code spells by the table of section 12.4, with the payload its length byte declares; a code of 1Eh or above is taken and answered UNKNOWN. Bytes beyond the declared length are ignored. That one row carries every selection given as bytes is log 9, the model's choice. -/
def Obligations.SelectionsAreAnswered : Prop :=
  (∀ (bytes : List Byte) (s : State), bytes.length < 2 →
    exec (.shortSelection bytes) s = .next (s.setPort { s.port with selection := none, response := { result := .badField } }))
  ∧ (∀ (code len : Byte) (rest : List Byte) (s : State), rest.length < len.toNat →
    exec (.shortSelection (code :: len :: rest)) s
      = .next (s.setPort { s.port with selection := none, response := { result := .badField } }))
  ∧ (∀ (code len : Byte) (rest : List Byte) (s : State) (c : Instr), len.toNat ≤ rest.length →
    (controllerCommands (rest.take len.toNat))[code.toNat]? = some c →
    exec (.shortSelection (code :: len :: rest)) s = exec c s)
  ∧ (∀ (code len : Byte) (rest : List Byte) (s : State), len.toNat ≤ rest.length → 0x1E ≤ code.toNat →
    Completes (.shortSelection (code :: len :: rest)) s ((s.wake .command).respond { result := .unknown }))
  ∧ (∀ p : List Byte, (controllerCommands p).length = 0x1E)
  ∧ ([Result.done, .busy, .full, .badField, .unknown].map Result.code = [0, 1, 2, 3, 4])
  ∧ (∀ r : Response,
      r.shiftOut 0 = r.result.code ∧ r.shiftOut 1 = BitVec.ofNat 8 r.payload.length
      ∧ (∀ (i : Nat) (b : Byte), r.payload[i]? = some b → r.shiftOut (i + 2) = b)
      ∧ ∀ i : Nat, r.payload.length ≤ i → r.shiftOut (i + 2) = 0)
  ∧ ∀ (code : Byte) (p : List Byte), commandOfCode code p = (controllerCommands p)[code.toNat]?

/-- A wake: in Doze the part goes to Run, posts the Wake notice or raises Notice Lost, takes a supply sample and a thermistor reading, and compares them; in Run nothing happens. What the sample and the reading are is free (log 7): they are the levels at the pins after the wake, of which nothing is said. Every taken command but DOZE leaves the part in Run. The Head Drive follows the holds as they stand after both (R153, R154). -/
def Obligations.TakenCommandWakes : Prop :=
  (∀ (s : State) (c : WakeCause), s.mon.power = .run → s.wake c = s)
  ∧ (∀ (s : State) (c : WakeCause), s.mon.power = .doze →
      let w := s.wake c
      w.mon.power = .run
      ∧ (s.crq.length < 64 → w.crq = s.crq ++ [.notice (.wake c)])
      ∧ (64 ≤ s.crq.length → w.crq = s.crq ∧ namesCause w.port.causes .noticeLost = true)
      ∧ w.mon.samples = { a := s.mon.samples.b, b := s.mon.samples.c, c := s.mon.samples.d, d := w.pins.supply.toNat }
      ∧ w.mon.lastSupply = s.now ∧ w.mon.lastTherm = s.now ∧ w.mon.supplyOwed = false ∧ w.mon.thermOwed = false
      ∧ (s.mon.supplyHold = false → (w.mon.supplyHold = true ↔ w.mon.supply < 560))
      ∧ (s.mon.supplyHold = true → (w.mon.supplyHold = false ↔ 590 ≤ w.mon.supply))
      ∧ namesCause w.port.causes .supplyHold
          = (namesCause s.port.causes .supplyHold || (!s.mon.supplyHold && w.mon.supplyHold))
      ∧ (let valid := -30 ≤ w.pins.therm ∧ w.pins.therm ≤ 100
        w.mon.temp = (if valid then w.pins.therm else s.mon.temp) ∧ w.mon.fallback = (if valid then false else true)
        ∧ (s.mon.thermalHold = false → (w.mon.thermalHold = true ↔ valid ∧ (s.mon.otLimit : Int) < w.pins.therm))
        ∧ (s.mon.thermalHold = true → (w.mon.thermalHold = false ↔ valid ∧ w.pins.therm ≤ (s.mon.otLimit : Int) - 8)))
      ∧ namesCause w.port.causes .thermalHold
          = (namesCause s.port.causes .thermalHold || (!s.mon.thermalHold && w.mon.thermalHold))
      ∧ namesCause w.port.causes .sensorFallback
          = (namesCause s.port.causes .sensorFallback || (!s.mon.fallback && w.mon.fallback))
      ∧ w.head.limit = dotLimitOf s.head.dotLimit w.mon.supply w.mon.fallback
      ∧ (s.head.state = .firing ∨ s.head.state = .advancing → w.head = { s.head with limit := w.head.limit })
      ∧ (w.mon.anyHold = true → s.head.state = .idle ∨ s.head.state = .settle ∨ s.head.state = .hold →
          w.head.state = .hold ∧ (s.head.state = .settle ∨ s.head.settle = none → w.head.settle = none))
      ∧ (w.mon.anyHold = false → s.head.state = .hold →
          w.head = { s.head with state := .settle, settle := some s.now, limit := w.head.limit })
      ∧ (w.mon.anyHold = false → s.mon.anyHold = false → s.head.state = .idle ∨ s.head.state = .settle →
          w.head = { s.head with limit := w.head.limit })
      ∧ w.choices = s.choices + 1 ∧ w.pins.carrier = s.pins.carrier ∧ w.pins.paper = s.pins.paper ∧ w.pins.lid = s.pins.lid
      ∧ w.mon.paper = s.mon.paper ∧ w.mon.lid = s.mon.lid ∧ w.keys = s.keys ∧ w.line = s.line ∧ w.tx = s.tx ∧ w.arb = s.arb
      ∧ w.store = s.store ∧ w.rtq = s.rtq ∧ w.engine = s.engine ∧ w.comp = s.comp ∧ w.now = s.now)
  ∧ (∀ (p : List Byte) (s : State), ∀ c ∈ controllerCommands p, c ≠ .doze p → ∃ t, exec c s = .next t ∧ t.mon.power = .run)

/-- A declared length above 72, or a payload shorter than the fixed fields, is answered BAD FIELD and changes nothing more. -/
def Obligations.WrongLengthIsBadField : Prop :=
  ∀ (p : List Byte) (s : State), ∀ x ∈ fixedFields p, (72 < p.length ∨ p.length < x.2) →
    Completes x.1 s ((s.wake .command).respond { result := .badField })

/-- READ QUEUE removes whole entries from the head of the CRQ and packs their encodings: no more than the count (1 to 8) and no more than 72 bytes, and as many as that allows. The encodings are those of section 12.5: four kinds of entry and eight kinds of notice, each with its tag, its kind, its count byte and its arguments. -/
def Obligations.ReadQueueRemovesWholeEntries : Prop :=
  (∀ (p : List Byte) (s : State), 1 ≤ p.length → p.length ≤ 72 →
    ∃ gone rest : List CrqEntry, (s.wake .command).crq = gone ++ rest
      ∧ gone.length ≤ max 1 (min 8 (byteAt p 0).toNat)
      ∧ (gone.flatMap CrqEntry.encode).length ≤ 72
      ∧ (gone.length = max 1 (min 8 (byteAt p 0).toNat) ∨ rest = []
        ∨ ∃ e more, rest = e :: more ∧ 72 < (gone.flatMap CrqEntry.encode).length + e.encode.length)
      ∧ Completes (.readQueue p) s
          (((s.wake .command).setCrq rest).respond { result := .done, payload := gone.flatMap CrqEntry.encode }))
  ∧ (∀ (r : Fin 16) (code : Byte) (substituted : Bool), ∃ b : Byte,
      (CrqEntry.character r code substituted).encode = [0x01, b, code]
      ∧ b.toNat % 16 = r.val ∧ b.getLsbD 7 = substituted ∧ ∀ i ∈ [4, 5, 6], b.getLsbD i = false)
  ∧ (∀ (f : Nat) (payload : List Byte), (CrqEntry.message f payload).encode
      = 0x03 :: BitVec.ofNat 8 f :: BitVec.ofNat 8 payload.length :: payload)
  ∧ (∀ (k : Fin 96), ∀ l ∈ [(Layer.plain, (0 : Byte)), (.shift, 1), (.control, 2), (.function, 3)],
      (CrqEntry.key k l.1).encode = [0x02, BitVec.ofNat 8 k.val, l.2]
      ∧ (CrqEntry.notice (.keyAttention k l.1)).encode = [0x04, 7, 2, BitVec.ofNat 8 k.val, l.2])
  ∧ (∀ x ∈ [(LineState.off, (0 : Byte)), (.listen, 1), (.qualify, 2), (.online, 3), (.fade, 4)],
      ∀ m ∈ [(Speed.sb300, (0 : Byte)), (.ta1200, 1)],
      (CrqEntry.notice (.lineState x.1 m.1)).encode = [0x04, 1, 2, x.2, m.2])
  ∧ (∀ n : Fin 4, ∀ o ∈ [(SlotOutcome.sent, (0 : Byte)), (.abortTooLate, 1), (.aborted, 2), (.lineLost, 3)],
      (CrqEntry.notice (.slotDone n o.1)).encode = [0x04, 2, 2, BitVec.ofNat 8 n.val, o.2])
  ∧ (∀ q ∈ [(JobPort.p2, (2 : Byte)), (.p3, 3)],
      ∀ e ∈ [(JobEvent.complete, (0 : Byte)), (.missingFirst, 1), (.missingLast, 2), (.stalled, 3), (.cancelled, 4)],
      (CrqEntry.notice (.jobEvent q.1 e.1)).encode = [0x04, 3, 2, q.2, e.2])
  ∧ (∀ (kind : BitVec 3) (r : Fin 16) (f : Nat), (CrqEntry.notice (.recordAccepted kind r f)).encode
      = [0x04, 4, 3, kind.setWidth 8, BitVec.ofNat 8 r.val, BitVec.ofNat 8 f])
  ∧ (∀ selector index : Nat, (CrqEntry.notice (.storeWritten selector index)).encode
      = [0x04, 5, 2, BitVec.ofNat 8 selector, BitVec.ofNat 8 index])
  ∧ (CrqEntry.notice .brk).encode = [0x04, 6, 0]
  ∧ ∀ c ∈ [(WakeCause.keyPress, (0 : Byte)), (.carrier, 1), (.command, 2)],
      (CrqEntry.notice (.wake c.1)).encode = [0x04, 8, 1, c.2]

/-- READ STATUS answers the 23 bytes of section 12.2, each code by its table, a field with no present meaning as 0 and the bits marked zero clear (R177), and has no effect of its own. That byte 11 is L divided by 16 rounded down, where L is no multiple of 16, is log 19, the model's reading. -/
def Obligations.ReadStatusReports : Prop :=
  (∀ (p : List Byte) (s : State), p.length ≤ 72 →
    Completes (.readStatus p) s
      ((s.wake .command).respond { result := .done, payload := (s.wake .command).statusResponse }))
  ∧ (∀ s : State,
    let b := s.statusResponse
    let low (n : Nat) : Byte := BitVec.ofNat 8 n
    let flag (x : Bool) : Nat := if x then 1 else 0
    b.length = 23
    ∧ byteAt b 0 = low (s.line.state.code + 8 * s.line.settings.speed.code + 16 * s.line.directionCode + 64 * s.tx.flow.code)
    ∧ byteAt b 1 = low s.rtq.length ∧ byteAt b 2 = low (s.rtq.length / 256)
    ∧ byteAt b 3 = low s.tx.ttq.length ∧ byteAt b 4 = low s.crq.length
    ∧ byteAt b 5 = low s.arb.p0.cells.length ∧ byteAt b 6 = low s.arb.p1.cells.length
    ∧ byteAt b 7 = low s.arb.p2.cells.length ∧ byteAt b 8 = low s.arb.p3.cells.length
    ∧ byteAt b 9 = low (s.comp.grantCode + 8 * s.arb.holdCode + 32 * flag s.arb.pause)
    ∧ byteAt b 10 = low (s.head.state.code + 8 * flag s.mon.paperHold + 16 * flag s.mon.supplyHold
        + 32 * flag s.mon.thermalHold + 64 * flag s.mon.fallback)
    ∧ byteAt b 11 = low (s.head.limit / 16)
    ∧ byteAt b 12 = low s.mon.supply ∧ byteAt b 13 = low (s.mon.supply / 256)
    ∧ byteAt b 14 = BitVec.ofInt 8 s.mon.temp ∧ byteAt b 15 = low s.line.collisions
    ∧ byteAt b 16 = low s.port.causes.toNat ∧ byteAt b 17 = low (s.port.causes.toNat / 256)
    ∧ byteAt b 18 = low s.engine.counts.marker ∧ byteAt b 19 = low s.engine.counts.header
    ∧ byteAt b 20 = low s.engine.counts.gap ∧ byteAt b 21 = low s.engine.counts.framing
    ∧ byteAt b 22 = low s.engine.counts.crc
    ∧ (byteAt b 9).toNat < 64 ∧ (byteAt b 10).toNat < 128
    ∧ (¬ (s.line.settings.speed = .ta1200 ∧ s.line.state = .online) ∨ s.line.direction = none → s.line.directionCode = 0)
    ∧ (s.line.settings.speed = .ta1200 → s.line.state = .online →
        ∀ d ∈ [(Direction.listening, 0), (.taking, 1), (.talking, 2), (.releasing, 3)],
          s.line.direction = some d.1 → s.line.directionCode = d.2)
    ∧ (s.comp.line = none → s.comp.grantCode = 0)
    ∧ (∀ l, s.comp.line = some l → ∀ q ∈ [(PortId.p0, 1), (.p1, 2), (.p2, 3), (.p3, 4)], l.port = q.1 → s.comp.grantCode = q.2)
    ∧ (s.arb.hold = none → s.arb.holdCode = 0)
    ∧ (s.arb.hold = some .p2 → s.arb.holdCode = 2) ∧ (s.arb.hold = some .p3 → s.arb.holdCode = 3))
  ∧ [LineState.off, .listen, .qualify, .online, .fade].map LineState.code = [0, 1, 2, 3, 4]
  ∧ [Speed.sb300, .ta1200].map Speed.code = [0, 1]
  ∧ [FlowState.flowing, .holdPending, .held, .resumePending].map FlowState.code = [0, 1, 2, 3]
  ∧ [HeadState.idle, .firing, .advancing, .hold, .settle].map HeadState.code = [0, 1, 2, 3, 4]

/-- R173: CLEAR CAUSES. A bit outside the ten causes is BAD FIELD; else every named cause is cleared but a Monitor cause whose condition lasts, the causes not named stay, the side effects of Record Error and Route Overflow are made, and the answer is DONE with the set as it stands. The bit of each cause is that of section 12.5. -/
def Obligations.ClearCausesKeepsLasting : Prop :=
  (∀ x : BitVec 10, ∀ c ∈ [(Cause.keyLost, 0), (.noticeLost, 1), (.jobError, 2), (.lineLost, 3), (.recordError, 4)]
        ++ [(.routeOverflow, 5), (.thermalHold, 6), (.supplyHold, 7), (.paperHold, 8), (.sensorFallback, 9)],
      namesCause x c.1 = x.getLsbD c.2)
  ∧ ∀ (p : List Byte) (s : State), 2 ≤ p.length → p.length ≤ 72 →
    (1024 ≤ wordAt p 0 → Completes (.clearCauses p) s ((s.wake .command).respond { result := .badField }))
    ∧ (wordAt p 0 < 1024 → ∃ a : State,
        let w := s.wake .command
        let x := BitVec.ofNat 10 (wordAt p 0)
        Completes (.clearCauses p) s (a.respond { result := .done, payload := wordBytes a.port.causes.toNat })
        ∧ (∀ c ∈ [Cause.keyLost, .noticeLost, .jobError, .lineLost, .recordError, .routeOverflow],
            namesCause a.port.causes c = (namesCause w.port.causes c && !namesCause x c))
        ∧ namesCause a.port.causes .thermalHold
            = (namesCause w.port.causes .thermalHold && (!namesCause x .thermalHold || w.mon.thermalHold))
        ∧ namesCause a.port.causes .supplyHold
            = (namesCause w.port.causes .supplyHold && (!namesCause x .supplyHold || w.mon.supplyHold))
        ∧ namesCause a.port.causes .paperHold
            = (namesCause w.port.causes .paperHold && (!namesCause x .paperHold || w.mon.paperHold))
        ∧ namesCause a.port.causes .sensorFallback
            = (namesCause w.port.causes .sensorFallback && (!namesCause x .sensorFallback || w.mon.fallback))
        ∧ a.engine = (if namesCause x .recordError then
            { w.engine with counts := { marker := 0, header := 0, gap := 0, framing := 0, crc := 0 } } else w.engine)
        ∧ (∀ n : Fin 16, a.store.route n
            = if namesCause x .routeOverflow then { w.store.route n with overflow := false } else w.store.route n)
        ∧ (a.setPort w.port |>.setEngine w.engine |>.setStore w.store) = w
        ∧ a.store.softKeys = w.store.softKeys ∧ a.store.glyphs = w.store.glyphs ∧ a.store.energy = w.store.energy
        ∧ a.store.remoteMask = w.store.remoteMask ∧ a.port.mask = w.port.mask)

/-- SET ATTN MASK replaces the mask whole, or is BAD FIELD; ATTN is asserted exactly while the CRQ holds an entry or an unmasked cause is set (a set mask bit masks its cause: log 28, the model's reading). The bit of each cause is that of section 12.5. -/
def Obligations.AttnFollowsMask : Prop :=
  (∀ x : BitVec 10, ∀ c ∈ [(Cause.keyLost, 0), (.noticeLost, 1), (.jobError, 2), (.lineLost, 3), (.recordError, 4)]
        ++ [(.routeOverflow, 5), (.thermalHold, 6), (.supplyHold, 7), (.paperHold, 8), (.sensorFallback, 9)],
      namesCause x c.1 = x.getLsbD c.2)
  ∧ (∀ (p : List Byte) (s : State), 2 ≤ p.length → p.length ≤ 72 →
    (1024 ≤ wordAt p 0 → Completes (.setAttnMask p) s ((s.wake .command).respond { result := .badField }))
    ∧ (wordAt p 0 < 1024 → Completes (.setAttnMask p) s
        (((s.wake .command).setPort { (s.wake .command).port with mask := BitVec.ofNat 10 (wordAt p 0) }).respond
          { result := .done, payload := wordBytes (wordAt p 0) })))
  ∧ ∀ s : State, s.attn = true ↔ s.crq ≠ [] ∨ ∃ i : Fin 10, s.port.causes.getLsbD i = true ∧ s.port.mask.getLsbD i = false

/-- RESET UNIT: the scope, BAD FIELD for any other, and what each scope leaves; All is Line, Keyboard and Print together, with the text queues, the error counts, the Overflow flags and the causes. The mark `clearAtEnd` on a row under way is log 27, the model's reading of R157. A scope Line leaves no record under assembly and no Break under way (R14, R20). -/
def Obligations.ResetUnitScopes : Prop :=
  (∀ (p : List Byte) (s : State), 1 ≤ p.length → p.length ≤ 72 →
    (byteAt p 0 = 0 → Completes (.resetUnit p) s (((s.wake .command).resetUnit .line).respond { result := .done }))
    ∧ (byteAt p 0 = 1 → Completes (.resetUnit p) s (((s.wake .command).resetUnit .keyboard).respond { result := .done }))
    ∧ (byteAt p 0 = 2 → Completes (.resetUnit p) s (((s.wake .command).resetUnit .print).respond { result := .done }))
    ∧ (byteAt p 0 = 3 → Completes (.resetUnit p) s (((s.wake .command).resetUnit .all).respond { result := .done }))
    ∧ (4 ≤ (byteAt p 0).toNat → Completes (.resetUnit p) s ((s.wake .command).respond { result := .badField })))
  ∧ (∀ s : State, let t := s.resetUnit .line
    t.line.state = .off ∧ t.line.direction = none ∧ t.line.timers = {} ∧ t.line.trim = none ∧ t.line.held = false
    ∧ t.line.inBreak = false ∧ t.engine.record = {} ∧ t.line.collisions = 0 ∧ t.line.settings = s.line.settings
    ∧ t.engine.rx = .text ∧ t.engine.gap = none ∧ t.engine.reply = none ∧ t.engine.counts = s.engine.counts
    ∧ t.engine.filters = s.engine.filters ∧ t.engine.masks = s.engine.masks ∧ t.engine.default = s.engine.default
    ∧ t.tx.ttq = [] ∧ t.tx.progress = .idle ∧ t.tx.breakPending = false ∧ t.tx.flow = .flowing
    ∧ t.tx.flowSettings = s.tx.flowSettings
    ∧ (∀ n : Fin 4, s.tx.slots[n].state = .requested ∨ s.tx.slots[n].state = .sending →
        t.tx.slots[n] = { s.tx.slots[n] with state := .aborted, abortNoted := false })
    ∧ (∀ n : Fin 4, s.tx.slots[n].state ≠ .requested → s.tx.slots[n].state ≠ .sending → t.tx.slots[n] = s.tx.slots[n])
    ∧ t.keys = s.keys ∧ t.store = s.store ∧ t.rtq = s.rtq ∧ t.comp = s.comp ∧ t.head = s.head ∧ t.mon = s.mon
    ∧ (s.arb.job3 ≠ .opened → t.arb = s.arb ∧ t.crq = s.crq ∧ t.port = s.port)
    ∧ (s.arb.job3 = .opened → namesCause t.port.causes .jobError = true
        ∧ (s.arb.p3.cells.length < 96 → t.arb = { s.arb with
            job3 := .none
            p3 := { s.arb.p3 with cells := s.arb.p3.cells ++ [{ body := .jobEnd, entered := s.now }]
                                  admitted := s.arb.p3.admitted + 1 } })
        ∧ (96 ≤ s.arb.p3.cells.length → t.arb = { s.arb with job3 := .discarding })
        ∧ (s.crq.length < 64 → t.crq = s.crq ++ [.notice (.jobEvent .p3 .missingLast)])
        ∧ (64 ≤ s.crq.length → t.crq = s.crq ∧ namesCause t.port.causes .noticeLost = true)))
  ∧ (∀ s : State, let t := s.resetUnit .keyboard
    (t.setKeys s.keys = s) ∧ t.keys.down = [] ∧ t.keys.events = [] ∧ t.keys.lock = false ∧ t.keys.repeating = none
    ∧ t.keys.counts = List.replicate 96 0
    ∧ (∀ k : Fin 96, t.keys.awaiting.getLsbD k.val
        = (s.keys.isDown k || s.keys.awaiting.getLsbD k.val || decide (0 < s.keys.count k)))
    ∧ t.keys.keymap = s.keys.keymap ∧ t.keys.settings = s.keys.settings ∧ t.keys.nextScan = s.keys.nextScan)
  ∧ (∀ s : State, let t := s.resetUnit .print
    (∀ q : PortId, (t.arb.port q).cells = [] ∧ (t.arb.port q).discarded = (s.arb.port q).discarded + (s.arb.port q).cells.length
      ∧ (t.arb.port q).admitted = (s.arb.port q).admitted ∧ (t.arb.port q).composed = (s.arb.port q).composed)
    ∧ t.arb.job2 = .none ∧ t.arb.job3 = .none ∧ t.arb.hold = none ∧ t.arb.stall = none ∧ t.arb.pause = false
    ∧ t.arb.lastGranted = s.arb.lastGranted ∧ t.arb.settings = s.arb.settings
    ∧ t.comp.line = none ∧ t.comp.rows = [] ∧ t.comp.settings = s.comp.settings ∧ t.head.state = s.head.state
    ∧ t.head.row = s.head.row ∧ t.head.speed = s.head.speed ∧ t.head.dotLimit = s.head.dotLimit ∧ t.head.settle = s.head.settle
    ∧ (s.head.state = .idle ∨ s.head.state = .hold ∨ s.head.state = .settle →
        t.head.inHand = .none ∧ t.head.history = 0 ∧ t.head.idleSince = none)
    ∧ (s.head.state = .firing → t.head = { s.head with clearAtEnd := true })
    ∧ (s.head.state = .advancing → (∀ n, s.head.inHand = .feed n → t.head = { s.head with clearAtEnd := true, inHand := .feed 1 })
        ∧ ((∀ n, s.head.inHand ≠ .feed n) → t.head = { s.head with clearAtEnd := true }))
    ∧ t.line = s.line ∧ t.engine = s.engine ∧ t.tx = s.tx ∧ t.keys = s.keys ∧ t.store = s.store ∧ t.rtq = s.rtq
    ∧ t.crq = s.crq ∧ t.mon = s.mon ∧ t.port = s.port)
  ∧ ∀ s : State, let t := s.resetUnit .all
    t.rtq = [] ∧ t.crq = [] ∧ t.line = (s.resetUnit .line).line ∧ t.tx = (s.resetUnit .line).tx
    ∧ t.keys = (s.resetUnit .keyboard).keys
    ∧ t.engine.rx = .text ∧ t.engine.record = {} ∧ t.engine.gap = none ∧ t.engine.reply = none
    ∧ t.engine.filters = s.engine.filters ∧ t.engine.masks = s.engine.masks ∧ t.engine.default = s.engine.default
    ∧ t.arb = ((s.resetUnit .line).resetUnit .print).arb ∧ (∀ q : PortId, (t.arb.port q).cells = [])
    ∧ t.arb.job2 = .none ∧ t.arb.job3 = .none ∧ t.arb.hold = none ∧ t.arb.stall = none ∧ t.arb.pause = false
    ∧ t.arb.lastGranted = s.arb.lastGranted ∧ t.arb.settings = s.arb.settings
    ∧ t.comp.line = none ∧ t.comp.rows = [] ∧ t.comp.settings = s.comp.settings ∧ t.head = (s.resetUnit .print).head
    ∧ t.store.softKeys = s.store.softKeys ∧ t.store.glyphs = s.store.glyphs ∧ t.store.energy = s.store.energy
    ∧ t.store.remoteMask = s.store.remoteMask
    ∧ (∀ c ∈ [Cause.keyLost, .noticeLost, .jobError, .lineLost, .recordError, .routeOverflow], namesCause t.port.causes c = false)
    ∧ namesCause t.port.causes .thermalHold = (namesCause s.port.causes .thermalHold && s.mon.thermalHold)
    ∧ namesCause t.port.causes .supplyHold = (namesCause s.port.causes .supplyHold && s.mon.supplyHold)
    ∧ namesCause t.port.causes .paperHold = (namesCause s.port.causes .paperHold && s.mon.paperHold)
    ∧ namesCause t.port.causes .sensorFallback = (namesCause s.port.causes .sensorFallback && s.mon.fallback)
    ∧ t.port.mask = s.port.mask ∧ t.mon = s.mon
    ∧ t.engine.counts = { marker := 0, header := 0, gap := 0, framing := 0, crc := 0 }
    ∧ (∀ n : Fin 16, t.store.route n = { s.store.route n with overflow := false })

/-- DOZE: taken when the Head Drive is IDLE, the ports, the Row Queue and the Composer are empty and the line is OFF or LISTEN; else BUSY. -/
def Obligations.DozeEntered : Prop :=
  ∀ (p : List Byte) (s : State), p.length ≤ 72 →
    let w := s.wake .command
    let may := w.head.state = .idle ∧ (∀ q : PortId, (w.arb.port q).cells = []) ∧ w.comp.rows = [] ∧ w.comp.line = none
      ∧ (w.line.state = .off ∨ w.line.state = .listen)
    (may → Completes (.doze p) s
      (((w.setMon { w.mon with power := .doze }).setKeys { w.keys with repeating := none }).respond { result := .done }))
    ∧ (¬ may → Completes (.doze p) s (w.respond { result := .busy }))

/-! ## Follow-ups -/

/-- The follow-ups of an event: `finishEvent` watches the stall timer and then makes the follow-ups one by one, the stall timer watched after each, until none is left (at most 8192 of them: log 25); a command that completes answers exactly its effect with its follow-ups. That a waiting Router and Dispatcher attempt before any later SEND TEXT, record or notice, is the model's choice (log 34). Which follow-up is next is the model's order (log 5; the free choice between Router and Dispatcher is log 4): the transmitter's act, a row start, an appended entry, the finish of a line, a grant, and last a take of the Router or the Dispatcher. -/
def Obligations.FollowUpsEndTheEvent : Prop :=
  (∀ (c : Instr) (s a : State), Completes c s a → exec c s = .next a.finishEvent)
  ∧ (∀ s : State, s.finishEvent = State.settle 8192 s.watchStall)
  ∧ (∀ (n : Nat) (s : State), s.nextAction = none → State.settle n s = s)
  ∧ (∀ (n : Nat) (s : State) (a : Action), s.nextAction = some a → State.settle (n + 1) s = State.settle n (s.perform a).watchStall)
  ∧ (∀ s : State,
      let rowStarts := s.head.state = .idle ∧ s.mon.anyHold = false ∧ s.headWork = true
      (∀ x, s.txAct = some x → s.nextAction = some (.transmit x))
      ∧ (s.txAct = none → rowStarts → s.nextAction = some .startRow)
      ∧ (s.txAct = none → ¬ rowStarts →
          (s.comp.canAppend = true → s.nextAction = some .append)
          ∧ (s.comp.canAppend = false → s.comp.canFinish = true → s.nextAction = some .finish)
          ∧ (s.comp.canAppend = false → s.comp.canFinish = false →
              (∀ q, s.grantChoice = some q → s.nextAction = some (.grant q))
              ∧ (s.grantChoice = none →
                  (s.routeTakes = true → s.dispatchTakes = false → s.nextAction = some (.route false))
                  ∧ (s.routeTakes = false → s.dispatchTakes = true → s.nextAction = some (.dispatch false))
                  ∧ (s.routeTakes = true → s.dispatchTakes = true →
                      s.nextAction = some (.route true) ∨ s.nextAction = some (.dispatch true))
                  ∧ (s.routeTakes = false → s.dispatchTakes = false → s.nextAction = none)))))
  ∧ ∀ s : State, (∀ x, s.perform (.transmit x) = s.doTx x) ∧ s.perform .startRow = s.startRow
      ∧ s.perform .append = s.setComp s.comp.append ∧ s.perform .finish = s.finishLine
      ∧ (∀ q, s.perform (.grant q) = s.grant q)
      ∧ s.perform (.route false) = s.routeHead ∧ s.perform (.dispatch false) = s.dispatch
      ∧ s.perform (.route true) = (s.setChoices (s.choices + 1)).routeHead
      ∧ s.perform (.dispatch true) = (s.setChoices (s.choices + 1)).dispatch

/-! ## The line -/

/-- CONFIG LINE: BUSY outside OFF, BAD FIELD for an enumerated field out of range, else every setting written, rounded down to its step and clamped. Every code of an enumerated field is listed with its value. -/
def Obligations.ConfigLineWrites : Prop :=
  (speed? 0 = some .sb300 ∧ speed? 1 = some .ta1200 ∧ ∀ b : Byte, 2 ≤ b.toNat → speed? b = none)
  ∧ (role? 0 = some .originate ∧ role? 1 = some .answer ∧ ∀ b : Byte, 2 ≤ b.toNat → role? b = none)
  ∧ (format? 0 = some .f8N1 ∧ format? 1 = some .f7E1 ∧ format? 2 = some .f7O1 ∧ ∀ b : Byte, 3 ≤ b.toNat → format? b = none)
  ∧ (∀ (n : Nat) (b : Byte) (x : Fin n), fin? n b = some x ↔ b.toNat = x.val)
  ∧ ∀ (p : List Byte) (s : State), 16 ≤ p.length → p.length ≤ 72 →
    (s.line.state ≠ .off → Completes (.configLine p) s ((s.wake .command).respond { result := .busy }))
    ∧ (s.line.state = .off →
        2 ≤ (byteAt p 0).toNat ∨ 2 ≤ (byteAt p 1).toNat ∨ 3 ≤ (byteAt p 2).toNat ∨ 31 ≤ (byteAt p 3).toNat
          ∨ 16 ≤ (byteAt p 4).toNat →
        Completes (.configLine p) s ((s.wake .command).respond { result := .badField }))
    ∧ (s.line.state = .off → ∀ speed role format station route,
        speed? (byteAt p 0) = some speed → role? (byteAt p 1) = some role → format? (byteAt p 2) = some format →
        fin? 31 (byteAt p 3) = some station → fin? 16 (byteAt p 4) = some route →
        Completes (.configLine p) s (((s.wake .command).setLine { (s.wake .command).line with
            settings := { speed := speed, role := role, format := format, station := station, textRoute := route
                          substitute := byteAt p 5
                          qualifyMs := max 50 (min 1600 (wordAt p 6 / 50 * 50))
                          lossMs := max 10 (min 320 (wordAt p 8 / 10 * 10))
                          dropMs := max 200 (min 6400 (wordAt p 10 / 200 * 200))
                          gapMs := max 20 (min 200 (wordAt p 12 / 10 * 10))
                          talkMs := max 500 (min 8000 (wordAt p 14 / 500 * 500)) } }).respond { result := .done }))

/-- LINE ON takes the line from OFF to LISTEN, and to QUALIFY at once where the carrier is present; in any other state DONE and no change. LINE OFF in OFF does nothing; else the line is OFF with the connection ended and a Line State notice after it. What ending a connection does (R11 items 2 to 7), with room for its notices, with room for the first alone, and with none. And what posting a notice and raising a cause do: at a full CRQ the notice is dropped and Notice Lost raised (R104). -/
def Obligations.LineOnAndOffMoveTheLine : Prop :=
  (∀ (p : List Byte) (s : State), p.length ≤ 72 →
    let w := s.wake .command
    (s.line.state ≠ .off → Completes (.lineOn p) s (w.respond { result := .done }))
    ∧ (s.line.state = .off → s.pins.carrier = false →
        Completes (.lineOn p) s ((w.setLine { w.line with state := .listen, timers := {} }).respond { result := .done }))
    ∧ (s.line.state = .off → s.pins.carrier = true →
        Completes (.lineOn p) s ((w.setLine { w.line with
            state := .qualify, timers := { qualify := some w.now } }).respond { result := .done })))
  ∧ (∀ (p : List Byte) (s : State), p.length ≤ 72 →
    let w := s.wake .command
    (s.line.state = .off → Completes (.lineOff p) s (w.respond { result := .done }))
    ∧ (s.line.state ≠ .off → Completes (.lineOff p) s
        ((((w.setLine { w.line with state := .off, direction := none, timers := {}, trim := none
                                    held := false, inBreak := false }).endConnection).post
            (.lineState .off w.line.settings.speed)).respond { result := .done })))
  ∧ (∀ (s : State) (n : Notice),
      (s.crq.length < 64 → s.post n = s.setCrq (s.crq ++ [.notice n])) ∧ (64 ≤ s.crq.length → s.post n = s.raise .noticeLost))
  ∧ (∀ (s : State) (c : Cause), let t := s.raise c
      t = s.setPort { s.port with causes := t.port.causes } ∧ namesCause t.port.causes c = true
      ∧ ∀ d : Cause, d ≠ c → namesCause t.port.causes d = namesCause s.port.causes d)
  ∧ ∀ s : State, let t := s.endConnection
    t.engine.rx = .text ∧ t.engine.record = {} ∧ t.engine.gap = none ∧ t.engine.reply = none
    ∧ t.engine.counts = s.engine.counts ∧ t.engine.filters = s.engine.filters ∧ t.engine.masks = s.engine.masks
    ∧ t.tx.progress = .idle ∧ t.tx.breakPending = false ∧ t.tx.flow = .flowing ∧ t.tx.ttq = s.tx.ttq
    ∧ (∀ n : Fin 4, s.tx.slots[n].state = .sending →
        t.tx.slots[n] = { s.tx.slots[n] with state := .aborted, abortNoted := false })
    ∧ (∀ n : Fin 4, s.tx.slots[n].state ≠ .sending → t.tx.slots[n] = s.tx.slots[n])
    ∧ ((∀ n : Fin 4, s.tx.slots[n].state ≠ .sending) → s.arb.job3 ≠ .opened → t.crq = s.crq ∧ t.port = s.port)
    ∧ (∀ n : Fin 4, s.tx.slots[n].state = .sending → (∀ m : Fin 4, m ≠ n → s.tx.slots[m].state ≠ .sending) →
        s.crq.length ≤ 62 →
        (s.arb.job3 ≠ .opened → t.crq = s.crq ++ [.notice (.slotDone n .lineLost)])
        ∧ (s.arb.job3 = .opened →
            t.crq = s.crq ++ [.notice (.slotDone n .lineLost), .notice (.jobEvent .p3 .missingLast)])
        ∧ namesCause t.port.causes .noticeLost = namesCause s.port.causes .noticeLost)
    ∧ (∀ n : Fin 4, s.tx.slots[n].state = .sending → (∀ m : Fin 4, m ≠ n → s.tx.slots[m].state ≠ .sending) →
        s.crq.length = 63 →
        t.crq = s.crq ++ [.notice (.slotDone n .lineLost)]
        ∧ (s.arb.job3 ≠ .opened → namesCause t.port.causes .noticeLost = namesCause s.port.causes .noticeLost)
        ∧ (s.arb.job3 = .opened → namesCause t.port.causes .noticeLost = true))
    ∧ ((∀ n : Fin 4, s.tx.slots[n].state ≠ .sending) → s.arb.job3 = .opened → s.crq.length < 64 →
        t.crq = s.crq ++ [.notice (.jobEvent .p3 .missingLast)]
        ∧ namesCause t.port.causes .noticeLost = namesCause s.port.causes .noticeLost)
    ∧ (64 ≤ s.crq.length → t.crq = s.crq
        ∧ ((∃ n : Fin 4, s.tx.slots[n].state = .sending) ∨ s.arb.job3 = .opened → namesCause t.port.causes .noticeLost = true))
    ∧ namesCause t.port.causes .jobError = (namesCause s.port.causes .jobError || s.arb.job3 == .opened)
    ∧ (∀ c : Cause, c ≠ .noticeLost → c ≠ .jobError → namesCause t.port.causes c = namesCause s.port.causes c)
    ∧ (s.arb.job3 ≠ .opened → t.arb = s.arb)
    ∧ (s.arb.job3 = .opened → s.arb.p3.cells.length < 96 →
        t.arb.job3 = .none ∧ t.arb.p3.cells = s.arb.p3.cells ++ [{ body := .jobEnd, entered := s.now }]
        ∧ namesCause t.port.causes .jobError = true)
    ∧ (s.arb.job3 = .opened → 96 ≤ s.arb.p3.cells.length →
        t.arb.job3 = .discarding ∧ t.arb.p3 = s.arb.p3 ∧ namesCause t.port.causes .jobError = true)
    ∧ t.line = { s.line with trim := none } ∧ t.keys = s.keys ∧ t.store = s.store ∧ t.rtq = s.rtq ∧ t.comp = s.comp
    ∧ t.head = s.head ∧ t.mon = s.mon ∧ t.arb.hold = s.arb.hold ∧ t.arb.p2 = s.arb.p2 ∧ t.arb.job2 = s.arb.job2

/-- SET FILTER, SET MASK and SET DEFAULT ACTION: the number first, then the line state, then the fields; a filter or mask is written whole. The codes of a flag and of an action are listed. -/
def Obligations.FiltersAreWritten : Prop :=
  (flag? 0 = some false ∧ flag? 1 = some true ∧ ∀ b : Byte, 2 ≤ b.toNat → flag? b = none)
  ∧ (filterAction? 0 = some .refuse ∧ filterAction? 1 = some .accept ∧ ∀ b : Byte, 2 ≤ b.toNat → filterAction? b = none)
  ∧ (∀ (n : Nat) (b : Byte) (x : Fin n), fin? n b = some x ↔ b.toNat = x.val)
  ∧ (∀ (p : List Byte) (s : State), 8 ≤ p.length → p.length ≤ 72 →
    let w := s.wake .command
    let isOpen := s.line.state = .off ∨ s.line.state = .listen
    (8 ≤ (byteAt p 0).toNat → Completes (.setFilter p) s (w.respond { result := .badField }))
    ∧ (∀ n, fin? 8 (byteAt p 0) = some n →
        (¬ isOpen → Completes (.setFilter p) s (w.respond { result := .busy }))
        ∧ (isOpen → 2 ≤ (byteAt p 1).toNat ∨ 8 ≤ (byteAt p 2).toNat ∨ 16 ≤ (byteAt p 3).toNat ∨ 4 ≤ (byteAt p 4).toNat
            ∨ 4 ≤ (byteAt p 5).toNat ∨ 2 ≤ (byteAt p 6).toNat ∨ 2 ≤ (byteAt p 7).toNat →
            Completes (.setFilter p) s (w.respond { result := .badField }))
        ∧ (isOpen → ∀ enable mask action report, flag? (byteAt p 1) = some enable → (byteAt p 2).toNat < 8 →
            (byteAt p 3).toNat < 16 → (byteAt p 4).toNat < 4 → fin? 4 (byteAt p 5) = some mask →
            filterAction? (byteAt p 6) = some action → flag? (byteAt p 7) = some report →
            Completes (.setFilter p) s ((w.setEngine { w.engine with
              filters := w.engine.filters.set n
                { enable := enable, kind := (byteAt p 2).setWidth 3, route := (byteAt p 3).setWidth 4,
                  segment := (byteAt p 4).setWidth 2, mask := mask, action := action, report := report } }).respond
              { result := .done }))))
  ∧ (∀ (p : List Byte) (s : State), 4 ≤ p.length → p.length ≤ 72 →
    let w := s.wake .command
    let isOpen := s.line.state = .off ∨ s.line.state = .listen
    (4 ≤ (byteAt p 0).toNat → Completes (.setMask p) s (w.respond { result := .badField }))
    ∧ (∀ n, fin? 4 (byteAt p 0) = some n →
        (¬ isOpen → Completes (.setMask p) s (w.respond { result := .busy }))
        ∧ (isOpen → 8 ≤ (byteAt p 1).toNat ∨ 16 ≤ (byteAt p 2).toNat ∨ 4 ≤ (byteAt p 3).toNat →
            Completes (.setMask p) s (w.respond { result := .badField }))
        ∧ (isOpen → (byteAt p 1).toNat < 8 → (byteAt p 2).toNat < 16 → (byteAt p 3).toNat < 4 →
            Completes (.setMask p) s ((w.setEngine { w.engine with
              masks := w.engine.masks.set n
                { kind := (byteAt p 1).setWidth 3, route := (byteAt p 2).setWidth 4,
                  segment := (byteAt p 3).setWidth 2 } }).respond { result := .done }))))
  ∧ ∀ (p : List Byte) (s : State), 2 ≤ p.length → p.length ≤ 72 →
    let w := s.wake .command
    (2 ≤ (byteAt p 0).toNat ∨ 2 ≤ (byteAt p 1).toNat → Completes (.setDefaultAction p) s (w.respond { result := .badField }))
    ∧ (∀ action report, filterAction? (byteAt p 0) = some action → flag? (byteAt p 1) = some report →
        Completes (.setDefaultAction p) s
          ((w.setEngine { w.engine with default := { action := action, report := report } }).respond { result := .done }))

/-- What a change of the carrier does in every line and direction state; a change to the level the detector already gives has no effect (log 3: the model's choice). And R1's output: the bands the part sends and listens on, mark and space, and when the part's own tones are on the line, in each speed, role, line state and direction state. -/
def Obligations.CarrierMovesTheLine : Prop :=
  (∀ l : Line, l.ownCarrier = true ↔
      (l.settings.speed = .sb300 ∧ l.settings.role = .answer ∧ l.state ≠ .off)
      ∨ (l.settings.speed = .sb300 ∧ l.settings.role = .originate ∧ (l.state = .online ∨ l.state = .fade))
      ∨ (l.settings.speed = .ta1200 ∧ l.state = .online
          ∧ (l.direction = some .taking ∨ l.direction = some .talking ∨ l.direction = some .releasing)))
  ∧ (sendBand .sb300 .originate = (1140, 980) ∧ listenBand .sb300 .originate = (2150, 1990)
    ∧ sendBand .sb300 .answer = (2150, 1990) ∧ listenBand .sb300 .answer = (1140, 980)
    ∧ ∀ role : Role, sendBand .ta1200 role = (1400, 2000) ∧ listenBand .ta1200 role = (1400, 2000))
  ∧ ∀ s : State,
    (s.pins.carrier = true → exec .carrierAppears s = .next s)
    ∧ (s.pins.carrier = false → exec .carrierEnds s = .next s)
    ∧ (s.pins.carrier = false →
        let a := s.setPins { s.pins with carrier := true }
        (s.line.state = .off → Completes .carrierAppears s a)
        ∧ (s.line.state = .listen → Completes .carrierAppears s ((a.setLine { s.line with
              state := .qualify,
              timers := { s.line.timers with qualify := some s.now, dropout := none } }).wake .carrier))
        ∧ (s.line.state = .qualify →
            Completes .carrierAppears s (a.setLine { s.line with timers := { s.line.timers with dropout := none } }))
        ∧ (s.line.state = .fade → Completes .carrierAppears s
            (a.setLine { s.line with timers := { s.line.timers with back := some s.now, drop := none } }))
        ∧ (s.line.state = .online → s.line.settings.speed = .sb300 →
            Completes .carrierAppears s (a.setLine { s.line with timers := { s.line.timers with loss := none } }))
        ∧ (s.line.state = .online → s.line.settings.speed = .ta1200 →
            (s.line.direction = some .listening → Completes .carrierAppears s
              (a.setLine { s.line with timers := { s.line.timers with gap := none, drop := none } }))
            ∧ (s.line.direction = some .taking → Completes .carrierAppears s
              (a.setLine { s.line with direction := some .listening, timers := {}
                                       collisions := if s.line.collisions < 255 then s.line.collisions + 1 else s.line.collisions }))
            ∧ (s.line.direction = some .releasing →
              Completes .carrierAppears s (a.setLine { s.line with direction := some .listening, timers := {} }))
            ∧ (s.line.direction = some .talking → Completes .carrierAppears s a)))
    ∧ (s.pins.carrier = true →
        let a := s.setPins { s.pins with carrier := false }
        (s.line.state = .off ∨ s.line.state = .listen → Completes .carrierEnds s a)
        ∧ (s.line.state = .qualify →
            Completes .carrierEnds s (a.setLine { s.line with timers := { s.line.timers with dropout := some s.now } }))
        ∧ (s.line.state = .fade → Completes .carrierEnds s
            (a.setLine { s.line with timers := { s.line.timers with back := none, drop := some s.now } }))
        ∧ (s.line.state = .online → s.line.settings.speed = .sb300 →
            Completes .carrierEnds s (a.setLine { s.line with timers := { s.line.timers with loss := some s.now } }))
        ∧ (s.line.state = .online → s.line.settings.speed = .ta1200 →
            (s.line.direction = some .listening → Completes .carrierEnds s
              (a.setLine { s.line with timers := { s.line.timers with gap := some s.now, drop := some s.now } }))
            ∧ (s.line.direction ≠ some .listening → Completes .carrierEnds s a)))

/-- The timers of QUALIFY, of SB300 ONLINE and of FADE move the line at the moment they are due: to ONLINE with its notice, direction and timers, back to LISTEN, to FADE, and back to ONLINE. The drop timer, in FADE or in TA1200 LISTENING, loses the line: LISTEN, the connection ended, the Line Lost cause, the Line State notice, and a carrier that is present qualifies at once. That the loss timer starts at an entry to SB300 ONLINE without the carrier is log 16, the model's reading. -/
def Obligations.CarrierTimersMoveTheLine : Prop :=
  (∀ (s : State) (start : Nat),
    (s.line.state = .qualify → s.line.timers.qualify = some start →
      let u := s.reach (start + 3000 * s.line.settings.qualifyMs)
      (s.line.settings.speed = .sb300 → Completes .qualifyTimeExpiry s
        (((u.setLine { s.line with
              state := .online,
              timers := { loss := if s.pins.carrier then none else some u.now } }).post (.lineState .online .sb300)).flowCompare))
      ∧ (s.line.settings.speed = .ta1200 → Completes .qualifyTimeExpiry s
        (((u.setLine { s.line with
              state := .online, direction := some .listening,
              timers := { gap := if s.pins.carrier then none else some u.now
                          drop := if s.pins.carrier then none else some u.now } }).post
            (.lineState .online .ta1200)).flowCompare)))
    ∧ (s.line.state = .qualify → s.line.timers.dropout = some start →
        Completes .qualifyDropoutExpiry s
          ((s.reach (start + 60000)).setLine { s.line with state := .listen, timers := {} }))
    ∧ (s.line.state = .online → s.line.settings.speed = .sb300 → s.line.timers.loss = some start →
        let u := s.reach (start + 3000 * s.line.settings.lossMs)
        Completes .lossDelayExpiry s
          (((u.setEngine { s.engine with rx := .text, record := {}, gap := none }).setLine
              { s.line with state := .fade, timers := { drop := some u.now }, trim := none, held := false, inBreak := false }).post
            (.lineState .fade .sb300)))
    ∧ (s.line.state = .fade → s.line.timers.back = some start →
        Completes .fadeReturn s
          (((s.reach (start + 60000)).setLine { s.line with state := .online, timers := {} }).post
            (.lineState .online s.line.settings.speed))))
  ∧ ∀ (s : State) (start : Nat), s.line.timers.drop = some start →
    let u := s.reach (start + 3000 * s.line.settings.dropMs)
    let lost := (((u.setLine { s.line with state := .listen, direction := none, timers := {}, trim := none
                                           held := false, inBreak := false }).endConnection).raise .lineLost).post
      (.lineState .listen s.line.settings.speed)
    let after := if s.pins.carrier then
        (lost.setLine { lost.line with state := .qualify
                                       timers := { lost.line.timers with qualify := some lost.now, dropout := none } }).wake .carrier
      else lost
    (s.line.state = .fade → Completes .fadeDropExpiry s after)
    ∧ (s.line.state = .online → s.line.settings.speed = .ta1200 → s.line.direction = some .listening →
        Completes .ta1200DropExpiry s after)

/-- The turns of TA1200: the Turnaround Gap and the Talk Limit are moments at which the transmitter may act; the lead-in ends in TALKING, the tail in LISTENING. What is work for the transmitter (R13). When the part takes and releases the line (log 24: the Talk Limit is passed one unit after it, the model's reading), and what the take and the release do: the take goes to TAKING with the lead-in from now and stops reception; the release goes to RELEASING with the tail from now, or with the carrier present to LISTENING at once, its timers not running (log 32: the model's reading of a carrier that is present already). -/
def Obligations.TurnsOfTheLine : Prop :=
  (∀ (s : State) (start : Nat), s.line.state = .online → s.line.settings.speed = .ta1200 →
    (s.line.direction = some .listening → s.line.timers.gap = some start →
      Completes .turnaroundGapExpiry s (s.reach (start + 3000 * s.line.settings.gapMs)))
    ∧ (s.line.direction = some .taking → s.line.timers.leadIn = some start →
      let u := s.reach (start + 120000)
      Completes .leadInEnd s (u.setLine { s.line with direction := some .talking, timers := { talk := some u.now } }))
    ∧ (s.line.direction = some .talking → s.line.timers.talk = some start →
      Completes .talkLimitExpiry s (s.reach (start + 3000 * s.line.settings.talkMs + 1)))
    ∧ (s.line.direction = some .releasing → s.line.timers.tail = some start →
      let u := s.reach (start + 60000)
      Completes .tailEnd s (u.setLine { s.line with
          direction := some .listening,
          timers := { gap := if s.pins.carrier then none else some u.now
                      drop := if s.pins.carrier then none else some u.now } })))
  ∧ (∀ s : State, s.hasWork = true ↔
      s.tx.flow = .holdPending ∨ s.tx.flow = .resumePending ∨ s.tx.breakPending = true ∨ s.engine.reply ≠ none
      ∨ (s.line.settings.format = .f8N1 ∧ ∃ n : Fin 4, s.tx.slots[n].state = .requested)
      ∨ s.tx.ttq ≠ [] ∨ ∃ source items pos start, s.tx.progress = .record source items pos start)
  ∧ ∀ s : State, s.line.state = .online → s.line.settings.speed = .ta1200 →
    (s.line.direction = some .listening →
      (s.txAct = some .take ↔ s.hasWork = true ∧ s.pins.carrier = false
        ∧ ∃ start, s.line.timers.gap = some start ∧ start + 3000 * s.line.settings.gapMs ≤ s.now)
      ∧ (s.txAct ≠ some .take → s.txAct = none))
    ∧ (s.line.direction = some .talking →
      (s.txAct = some .release ↔ s.tx.progress = .idle ∧ (s.hasWork = false
        ∨ ∃ start, s.line.timers.talk = some start ∧ start + 3000 * s.line.settings.talkMs < s.now)))
    ∧ (s.line.direction = some .taking ∨ s.line.direction = some .releasing → s.txAct = none)
    ∧ s.doTx .take = s.setLine { s.line with direction := some .taking, timers := { leadIn := some s.now }
                                             held := false, inBreak := false }
    ∧ (s.pins.carrier = false →
        s.doTx .release = s.setLine { s.line with direction := some .releasing, timers := { tail := some s.now } })
    ∧ (s.pins.carrier = true → s.doTx .release = s.setLine { s.line with direction := some .listening, timers := {} })

/-- An expiry whose timer does not run has no effect (log 3: the model's choice). -/
def Obligations.NoTimerNoExpiry : Prop :=
  ∀ s : State,
    (s.qualifyDue = none → exec .qualifyTimeExpiry s = .next s)
    ∧ (s.dropoutDue = none → exec .qualifyDropoutExpiry s = .next s)
    ∧ (s.lossDue = none → exec .lossDelayExpiry s = .next s)
    ∧ (s.returnDue = none → exec .fadeReturn s = .next s)
    ∧ (s.fadeDropDue = none → exec .fadeDropExpiry s = .next s)
    ∧ (s.turnDropDue = none → exec .ta1200DropExpiry s = .next s)
    ∧ (s.gapDue = none → exec .turnaroundGapExpiry s = .next s)
    ∧ (s.leadInDue = none → exec .leadInEnd s = .next s)
    ∧ (s.talkDue = none → exec .talkLimitExpiry s = .next s)
    ∧ (s.tailDue = none → exec .tailEnd s = .next s)
    ∧ (s.recordGapDue = none → exec .gapTimerExpiry s = .next s)
    ∧ (s.replyDue = none → exec .replyReady s = .next s)
    ∧ (s.itemEnd = none → exec .transmitItemEnd s = .next s)
    ∧ (s.repeatDue = none → exec .repeatTimerExpiry s = .next s)
    ∧ (∀ q, s.partialDue q = none → exec (.partialLineExpiry q) s = .next s)
    ∧ (s.stallEnd = none → exec .jobStallExpiry s = .next s)
    ∧ (s.phaseDue = none → exec .phaseEnd s = .next s)
    ∧ (s.rowDue = none → exec .rowPeriodEnd s = .next s)
    ∧ (s.settleDue = none → exec .settleExpiry s = .next s)
    ∧ (∀ i, s.stableDue i = none → exec (.sensorStableExpiry i) s = .next s)

/-! ## Reception and records -/

/-- A received character in TEXT becomes one cell at the tail of the RTQ with the Line Text Route, the Substitute Code standing for a marked one; at a full RTQ it is dropped with the route's Overflow flag and the Route Overflow cause. Where characters are not received nothing happens. Where they are (R14), which character is marked, which is space throughout, and what its code is (R2, R14), are given. A character that comes while a Break or a held character is still recorded comes after the Break's end, or after the release of the held character, for it implies that the line had returned to mark: log 11, the model's reading. -/
def Obligations.CharacterBecomesTextCell : Prop :=
  (∀ l : Line, l.receiving = true ↔
      l.state = .online ∧ (l.settings.speed = .sb300 ∨ (l.settings.speed = .ta1200 ∧ l.direction = some .listening)))
  ∧ (∀ (data : Byte) (parity stop : Bool),
      let ones := ((List.range 7).map data.getLsbD).count true + [parity].count true
      (isMarked .f8N1 data parity stop = true ↔ stop = false)
      ∧ (isMarked .f7E1 data parity stop = true ↔ stop = false ∨ ones % 2 = 1)
      ∧ (isMarked .f7O1 data parity stop = true ↔ stop = false ∨ ones % 2 = 0)
      ∧ (isAllSpace .f8N1 data parity stop = true ↔ stop = false ∧ ∀ i : Nat, i < 8 → data.getLsbD i = false)
      ∧ receivedCode .f8N1 data = data
      ∧ ∀ f : Format, f ≠ .f8N1 →
          (isAllSpace f data parity stop = true ↔ stop = false ∧ parity = false ∧ ∀ i : Nat, i < 7 → data.getLsbD i = false)
          ∧ (∀ i : Nat, i < 7 → (receivedCode f data).getLsbD i = data.getLsbD i) ∧ (receivedCode f data).getLsbD 7 = false)
  ∧ ∀ (data : Byte) (parity stop : Bool) (edge : Option Nat) (s : State),
    let f := s.line.settings.format
    let r := s.line.settings.textRoute
    let marked := isMarked f data parity stop
    (s.line.receiving = false → exec (.characterReceived data parity stop edge) s = .next s)
    ∧ (s.line.receiving = true → s.line.inBreak = false → s.line.held = false → s.engine.rx = .text →
        isAllSpace f data parity stop = false →
        (s.rtq.length < 256 → Completes (.characterReceived data parity stop edge) s
          ((s.setRtq (s.rtq ++ [{ code := if marked then s.line.settings.substitute else receivedCode f data
                                  route := r, substituted := marked }])).flowCompare))
        ∧ (256 ≤ s.rtq.length → Completes (.characterReceived data parity stop edge) s
          ((s.setStore (s.store.setRoute r { s.store.route r with overflow := true })).raise .routeOverflow)))
    ∧ (s.line.receiving = true → s.line.inBreak = true →
        let a := s.setLine { s.line with inBreak := false }
        let ended := if s.engine.rx = .text then a else a.setEngine { s.engine with gap := some s.now }
        exec (.characterReceived data parity stop edge) s = exec (.characterReceived data parity stop edge) ended)
    ∧ (s.line.receiving = true → s.line.inBreak = false → s.line.held = true →
        let a := s.setLine { s.line with held := false }
        let released :=
          if s.engine.rx ≠ .text then a.abandon .framing
          else if s.rtq.length < 256 then
            (a.setRtq (s.rtq ++ [{ code := s.line.settings.substitute, route := r, substituted := true }])).flowCompare
          else (a.setStore (s.store.setRoute r { s.store.route r with overflow := true })).raise .routeOverflow
        exec (.characterReceived data parity stop edge) s = exec (.characterReceived data parity stop edge) released)

/-- Held characters and Breaks: an all-space character is held, its start edge having stopped the gap timer; its release hands on a marked 00h; a Break starts a record in 8N1 and posts a notice in the other formats; its end starts the gap timer of a record. A held character or a Break whose start edge came more than three character times after the silence began comes to a part that has abandoned its record with a Gap error (when that edge was is log 12, the model's reading: two character times before a Break is detected). A release where no character is held, a Break where none is received or one is under way, and a Break end without a Break have no effect: log 3, the model's choice. -/
def Obligations.BreaksAndHeldCharacters : Prop :=
  ∀ s : State,
    (s.line.receiving = true → s.line.inBreak = false → s.line.held = false →
      ∀ data parity stop edge, isAllSpace s.line.settings.format data parity stop = true →
        (s.gapBeforeCharacter = false → Completes (.characterReceived data parity stop edge) s
          ((s.setLine { s.line with held := true }).setEngine { s.engine with gap := none }))
        ∧ (s.gapBeforeCharacter = true → Completes (.characterReceived data parity stop edge) s
          ((s.abandon .gap).setLine { (s.abandon .gap).line with held := true })))
    ∧ (s.line.receiving = false ∨ s.line.held = false → exec .heldCharacterRelease s = .next s)
    ∧ (s.line.receiving = true → s.line.held = true →
        let a := s.setLine { s.line with held := false }
        (s.engine.rx ≠ .text → Completes .heldCharacterRelease s (a.abandon .framing))
        ∧ (s.engine.rx = .text → s.rtq.length < 256 → Completes .heldCharacterRelease s
            ((a.setRtq (s.rtq ++ [{ code := s.line.settings.substitute, route := s.line.settings.textRoute
                                    substituted := true }])).flowCompare))
        ∧ (s.engine.rx = .text → 256 ≤ s.rtq.length → Completes .heldCharacterRelease s
            ((a.setStore (s.store.setRoute s.line.settings.textRoute
              { s.store.route s.line.settings.textRoute with overflow := true })).raise .routeOverflow)))
    ∧ (s.line.receiving = false ∨ s.line.inBreak = true → exec .breakDetected s = .next s)
    ∧ (s.gapBeforeBreak = true ↔ s.engine.rx ≠ .text ∧ ∃ start, s.engine.gap = some start
        ∧ start + 30 * bitTime s.line.settings.speed + 20 * bitTime s.line.settings.speed < s.now)
    ∧ (s.line.receiving = true → s.line.inBreak = false → s.gapBeforeBreak = true →
        exec .breakDetected s = exec .breakDetected (s.abandon .gap))
    ∧ (s.line.receiving = true → s.line.inBreak = false → s.gapBeforeBreak = false →
        (s.line.settings.format = .f8N1 → Completes .breakDetected s
          ((s.setLine { s.line with held := false, inBreak := true, trim := none }).setEngine
            { s.engine with rx := .marker, record := { crc := 0xFFFF }, gap := none }))
        ∧ (s.line.settings.format ≠ .f8N1 → Completes .breakDetected s
          ((s.setLine { s.line with held := false, inBreak := true }).post .brk)))
    ∧ (s.line.inBreak = false → exec .breakEnd s = .next s)
    ∧ (s.line.inBreak = true →
        let a := s.setLine { s.line with inBreak := false }
        (s.engine.rx = .text → Completes .breakEnd s a)
        ∧ (s.engine.rx ≠ .text → Completes .breakEnd s (a.setEngine { s.engine with gap := some s.now })))

/-- R24: the header byte, of a character whose start edge came before the gap timer exceeded its limit (`gapBeforeCharacter`, stated in AbandonmentIsCounted). A marked one is a Framing error; the two check bits decide; a good one sets kind, length code and so N, enters the running CRC, and the engine goes to STATION. -/
def Obligations.HeaderByteIsChecked : Prop :=
  (∀ (data : Byte) (parity stop : Bool) (edge : Option Nat) (s : State),
    let f := s.line.settings.format
    let c := receivedCode f data
    let kind : BitVec 3 := c.extractLsb' 0 3
    let len : BitVec 3 := c.extractLsb' 3 3
    let good := c.getLsbD 6 = ((kind.getLsbD 0 ^^ kind.getLsbD 2) ^^ len.getLsbD 1)
      ∧ c.getLsbD 7 = !((kind.getLsbD 1 ^^ len.getLsbD 0) ^^ len.getLsbD 2)
    s.line.receiving = true → s.line.inBreak = false → s.line.held = false → s.engine.rx = .header →
      s.gapBeforeCharacter = false → isAllSpace f data parity stop = false →
      (isMarked f data parity stop = true → Completes (.characterReceived data parity stop edge) s (s.abandon .framing))
      ∧ (isMarked f data parity stop = false → ¬ good →
          Completes (.characterReceived data parity stop edge) s (s.abandon .header))
      ∧ (isMarked f data parity stop = false → good → Completes (.characterReceived data parity stop edge) s
          (s.setEngine { s.engine with rx := .station, gap := some s.now
                                       record := { s.engine.record with kind := kind, lenCode := len
                                                                        crc := crcByte s.engine.record.crc c } })))
  ∧ headerOk 0x00 = false ∧ headerOk 0xFF = false
  ∧ headerOk 0x2A = true ∧ headerKind 0x2A = 2 ∧ headerLenCode 0x2A = 5
  ∧ headerOk 0xC4 = true ∧ headerKind 0xC4 = 4 ∧ headerLenCode 0xC4 = 0
  ∧ (∀ kind len : BitVec 3, ∃ b : Byte, headerOk b = true ∧ headerKind b = kind ∧ headerLenCode b = len)
  ∧ [0, 1, 2, 3, 4, 5, 6, 7].map (fun n => payloadLength (BitVec.ofNat 3 n)) = [0, 2, 4, 8, 12, 16, 32, 48]

/-- The other bytes of a record, for an unmarked character whose start edge came before the gap timer exceeded its limit: the marker with its interval (R17), the station, the route, the payload, and the CRC, whose high byte decides a sound record; and how a byte is added to the running CRC (R26). The segment codes are listed; and what is left of the record, the gap timer and the trim when a record has ended (R17, R27). -/
def Obligations.RecordBytesAssemble : Prop :=
  (∀ s : State, s.dropRecord = (s.setEngine { s.engine with
      rx := .text, gap := none
      record := { kind := 0, lenCode := 0, station := 0, stationUpper := false, route := 0, segment := .whole
                  ack := false, routeUpper := false, payload := [], crc := 0, crcLow := none } }).setLine
        { s.line with trim := none })
  ∧ (([0, 1, 2, 3] : List (BitVec 2)).map Segment.ofBits = [.whole, .first, .middle, .last])
  ∧ (intervalOk .sb300 none = false ∧ intervalOk .ta1200 none = false
    ∧ (∀ n : Nat, intervalOk .sb300 (some n) = true ↔ 67200 ≤ n ∧ n ≤ 72800)
    ∧ (∀ n : Nat, intervalOk .ta1200 (some n) = true ↔ 16800 ≤ n ∧ n ≤ 18200))
  ∧ (∀ (crc : BitVec 16) (b : Byte),
      let add (c : BitVec 16) (i : Nat) : BitVec 16 :=
        if (b.getLsbD i ^^ c.getLsbD 0) = true then (c >>> 1) ^^^ 0x8408#16 else c >>> 1
      crcByte crc b = add (add (add (add (add (add (add (add crc 0) 1) 2) 3) 4) 5) 6) 7)
  ∧ [0x31, 0x32, 0x33, 0x34, 0x35, 0x36, 0x37, 0x38, 0x39].foldl crcByte 0xFFFF = 0x6F91
  ∧ ∀ (data : Byte) (parity : Bool) (edge : Option Nat) (s : State),
    s.line.receiving = true → s.line.inBreak = false → s.line.held = false → s.line.settings.format = .f8N1 →
    s.gapBeforeCharacter = false →
    let r := s.engine.record
    let go (x : RxState) (n : Assembly) := s.setEngine { s.engine with rx := x, record := n, gap := some s.now }
    let c := Instr.characterReceived data parity true edge
    (s.engine.rx = .marker →
      (data ≠ 0xC3 ∨ intervalOk s.line.settings.speed edge = false → Completes c s (s.abandon .marker))
      ∧ (data = 0xC3 → intervalOk s.line.settings.speed edge = true →
          Completes c s ((go .header r).setLine { s.line with trim := edge })))
    ∧ (s.engine.rx = .station → Completes c s
        (go .route { r with station := data.extractLsb' 0 5, stationUpper := decide (32 ≤ data.toNat), crc := crcByte r.crc data }))
    ∧ (s.engine.rx = .route → Completes c s
        (go (if payloadLength r.lenCode = 0 then .check else .payload)
          { r with route := ⟨data.toNat % 16, by omega⟩, segment := Segment.ofBits (data.extractLsb' 4 2)
                   ack := data.getLsbD 6, routeUpper := data.getLsbD 7, crc := crcByte r.crc data }))
    ∧ (s.engine.rx = .payload → Completes c s
        (go (if r.payload.length + 1 < payloadLength r.lenCode then .payload else .check)
          { r with payload := r.payload ++ [data], crc := crcByte r.crc data }))
    ∧ (s.engine.rx = .check →
        (r.crcLow = none → Completes c s (go .check { r with crcLow := some data }))
        ∧ (∀ low, r.crcLow = some low →
            (low.toNat + 256 * data.toNat ≠ r.crc.toNat → Completes c s (s.abandon .crc))
            ∧ (low.toNat + 256 * data.toNat = r.crc.toNat → Completes c s (s.dropRecord.decide r))))

/-- A marked character in any state of a record is a Framing error; the gap timer past three character times is a Gap error (log 24: one unit after, the model's reading), to which it comes of itself at that moment unless a start bit is under way then (log 12: free, the model's choice), and so is a character whose start edge came later than that, which is then received in TEXT (log 12, the model's reading: the edge was nine and a half bit periods before the stop bit is sampled; the period is a seventh of the trim); and what a counted abandonment leaves: TEXT, no record, no trim, its count one up to 255, the Record Error cause. A reply becomes ready at its moment. -/
def Obligations.AbandonmentIsCounted : Prop :=
  (∀ (data : Byte) (parity stop : Bool) (edge : Option Nat) (s : State),
    s.line.receiving = true → s.line.inBreak = false → s.line.held = false → s.engine.rx ≠ .text → s.gapBeforeCharacter = false →
    isAllSpace s.line.settings.format data parity stop = false → isMarked s.line.settings.format data parity stop = true →
    Completes (.characterReceived data parity stop edge) s (s.abandon .framing))
  ∧ (∀ s : State, s.gapBeforeCharacter = true ↔ s.engine.rx ≠ .text ∧ ∃ start, s.engine.gap = some start
      ∧ 14 * (start + 30 * bitTime s.line.settings.speed) + 19 * s.line.trim.getD (7 * bitTime s.line.settings.speed) < 14 * s.now)
  ∧ (∀ (data : Byte) (parity stop : Bool) (edge : Option Nat) (s : State),
      s.line.receiving = true → s.line.inBreak = false → s.line.held = false → s.gapBeforeCharacter = true →
      exec (.characterReceived data parity stop edge) s = exec (.characterReceived data parity stop edge) (s.abandon .gap)
      ∧ (s.abandon .gap).engine.rx = .text)
  ∧ (∀ (s : State) (start : Nat), s.engine.rx ≠ .text → s.engine.gap = some start →
      let due := start + 30 * bitTime s.line.settings.speed + 1
      Completes .gapTimerExpiry s ((s.reach due).abandon .gap)
      ∧ s.timerDue .recordGap = some (if s.line.receiving = true ∧ Config.startBit due = true
          then due + 10 * bitTime s.line.settings.speed else due))
  ∧ (∀ (s : State) (e : RecordError), let t := s.abandon e
      t.engine = { s.engine with rx := .text, record := {}, gap := none, counts := s.engine.counts.count e }
      ∧ t.line = { s.line with trim := none } ∧ t.port = { s.port with causes := s.port.causes ||| Cause.recordError.mask }
      ∧ (t.setEngine s.engine |>.setLine s.line |>.setPort s.port) = s)
  ∧ (∀ c : ErrorCounts, c.count .marker = { c with marker := bump c.marker } ∧ c.count .header = { c with header := bump c.header }
      ∧ c.count .gap = { c with gap := bump c.gap } ∧ c.count .framing = { c with framing := bump c.framing }
      ∧ c.count .crc = { c with crc := bump c.crc })
  ∧ (∀ n : Nat, n < 255 → bump n = n + 1) ∧ bump 255 = 255
  ∧ ∀ (s : State) (r : Reply), s.engine.reply = some r → Completes .replyReady s (s.reach r.readyAt)

/-- R30: a record is addressed to this terminal when the three upper bits of its station byte are 0 and its station is the own one or 31; any other record does nothing; a broadcast record does what the addressed one does, and is never answered. -/
def Obligations.AddressDecidesRecord : Prop :=
  (∀ (r : Assembly) (own : Fin 31),
    r.addressed own = true ↔ r.stationUpper = false ∧ (r.station.toNat = own.val ∨ r.station.toNat = 31))
  ∧ (∀ (s : State) (r : Assembly), r.addressed s.line.settings.station = false →
      s.decide r = s ∧ (s.dropRecord.decide r).engine.rx = .text)
  ∧ ∀ (s : State) (r : Assembly), r.stationUpper = false → r.station.toNat = s.line.settings.station.val →
    let b := s.decide { r with station := 31 }
    b.engine.reply = s.engine.reply
    ∧ b.setEngine { b.engine with reply := (s.decide r).engine.reply } = s.decide r
    ∧ (s.dropRecord.decide r).engine.rx = .text

/-- R31: a filter matches when kind, route and segment agree with it in every bit its mask leaves clear; the first enabled one that matches governs, else the Default Action with number 8; Refuse refuses with the reason Refused and nothing is acted on; Accept goes on to the examination of step 3. That the reply of a POLL is made after the Record Accepted notice is log 13, the model's choice. -/
def Obligations.FirstMatchingFilterGoverns : Prop :=
  (∀ (f : Sys2Proof.Machine.Filter) (masks : Vector FilterMask 4) (r : Assembly),
    f.matches masks r = true ↔ f.enable = true
      ∧ (∀ i < 3, masks[f.mask].kind.getLsbD i = false → r.kind.getLsbD i = f.kind.getLsbD i)
      ∧ (∀ i < 4, masks[f.mask].route.getLsbD i = false → r.route.val.testBit i = f.route.getLsbD i)
      ∧ (∀ i < 2, masks[f.mask].segment.getLsbD i = false → r.segment.bits.getLsbD i = f.segment.getLsbD i))
  ∧ (∀ (e : Engine) (r : Assembly) (n : Fin 8), e.filters[n].matches e.masks r = true →
      (∀ m : Fin 8, m < n → e.filters[m].matches e.masks r = false) →
      e.governs r = (e.filters[n].action, e.filters[n].report, n.val))
  ∧ (∀ (e : Engine) (r : Assembly), (∀ m : Fin 8, e.filters[m].matches e.masks r = false) →
      e.governs r = (e.default.action, e.default.report, 8))
  ∧ (∀ (s : State) (r : Assembly), r.addressed s.line.settings.station = true → (s.engine.governs r).1 = .refuse →
      s.decide r = s.answer r (.nak .refused r.kind))
  ∧ ∀ (s : State) (r : Assembly), r.addressed s.line.settings.station = true → (s.engine.governs r).1 = .accept →
      (∀ reason, s.examine r = .inl reason → s.decide r = s.answer r (.nak reason r.kind))
      ∧ (∀ act, s.examine r = .inr act →
          let n := (s.engine.governs r).2.2
          let done := if (s.engine.governs r).2.1 then (s.act r n act).post (.recordAccepted r.kind r.route n) else s.act r n act
          s.decide r = done.answer r (if act = .poll then .status done else .ack))

/-- The decision of an accepted record, kind by kind: kinds 0 and 7, the upper bit of the route byte, then TEXT, PRINT, STORE, POLL, CANCEL and MESSAGE with their refusals, actions, notices and replies; and the reply of an answered record. That a POLL's STATUS is made after the Record Accepted notice is log 13, the model's choice. The selector and the index a Store Written notice names (R90). -/
def Obligations.AcceptedRecordActs : Prop :=
  (∀ (s : State) (r : Assembly), r.addressed s.line.settings.station = true → (s.engine.governs r).1 = .accept →
    let n := (s.engine.governs r).2.2
    let note (t : State) : State := if (s.engine.governs r).2.1 then t.post (.recordAccepted r.kind r.route n) else t
    (r.kind = 0 ∨ r.kind = 7 → s.decide r = s.answer r (.nak .kind r.kind))
    ∧ (r.kind ≠ 0 → r.kind ≠ 7 → r.routeUpper = true → s.decide r = s.answer r (.nak .badField r.kind))
    ∧ (r.routeUpper = false →
        (r.kind = 1 → s.rtq.length + r.payload.length ≤ 256 → s.decide r = (note ((s.setRtq (s.rtq ++ r.payload.map
            fun c => { code := c, route := r.route, substituted := false })).flowCompare)).answer r .ack)
        ∧ (r.kind = 1 → 256 < s.rtq.length + r.payload.length → s.decide r = s.answer r (.nak .busy 1))
        ∧ (r.kind = 2 → s.segmentFits .p3 r.segment (s.store.route r.route).style r.payload = true →
            s.decide r = (note (s.admitSegment .p3 r.segment (s.store.route r.route).style r.payload)).answer r .ack)
        ∧ (r.kind = 2 → s.segmentFits .p3 r.segment (s.store.route r.route).style r.payload = false →
            s.decide r = s.answer r (.nak .busy 2))
        ∧ (r.kind = 3 → checkStore r.payload = .short → s.decide r = s.answer r (.nak .length 3))
        ∧ (r.kind = 3 → checkStore r.payload = .badField → s.decide r = s.answer r (.nak .badField 3))
        ∧ (∀ w, r.kind = 3 → checkStore r.payload = .ok w →
            (s.store.permits w = false → s.decide r = s.answer r (.nak .denied 3))
            ∧ (s.store.permits w = true → s.store.fits w = false → s.decide r = s.answer r (.nak .busy 3))
            ∧ (s.store.permits w = true → s.store.fits w = true → s.decide r = (note ((s.setStore
                (s.store.remoteWrite w)).post (.storeWritten w.names.1 w.names.2))).answer r .ack))
        ∧ (r.kind = 4 → s.decide r = (note s).answer r (.status (note s)))
        ∧ (r.kind = 5 → s.decide r = (note (s.cancelJob .p3)).answer r .ack)
        ∧ (r.kind = 6 → s.crq.length < 64 →
            s.decide r = (note (s.setCrq (s.crq ++ [.message n r.payload]))).answer r .ack)
        ∧ (r.kind = 6 → 64 ≤ s.crq.length → s.decide r = s.answer r (.nak .busy 6))))
  ∧ (∀ (s : State) (r : Assembly) (o : OutRecord),
      (r.station ≠ 31 ∧ (r.ack = true ∨ r.kind = 4) → s.answer r o = s.setEngine { s.engine with
          reply := some { record := o, readyAt := s.now + match s.line.settings.speed with
              | .sb300 => 200000
              | .ta1200 => 0 } })
      ∧ (r.station = 31 ∨ (r.ack = false ∧ r.kind ≠ 4) → s.answer r o = s))
  ∧ ∀ st : Store, (∀ (n : Fin 16) (e : Route), st.permits (.route n e) = (st.remoteMask.routes && !(st.route n).locked))
      ∧ (∀ (n : Fin 12) (k : SoftKey), st.permits (.softKey n k) = st.remoteMask.softKeys)
      ∧ (∀ (n : Fin 32) (g : Glyph), st.permits (.glyph n g) = st.remoteMask.glyphs)
      ∧ (∀ (n : Fin 16) (v : Nat), st.permits (.energy n v) = st.remoteMask.energy)
      ∧ (∀ (n : Fin 16) (e : Route), (StoreWrite.route n e).names = (1, n.val))
      ∧ (∀ (n : Fin 12) (k : SoftKey), (StoreWrite.softKey n k).names = (2, n.val))
      ∧ (∀ (n : Fin 32) (g : Glyph), (StoreWrite.glyph n g).names = (3, n.val))
      ∧ (∀ (n : Fin 16) (v : Nat), (StoreWrite.energy n v).names = (4, n.val))

/-! ## The Line Transmitter -/

/-- CONFIG FLOW, SEND TEXT and SEND BREAK; and the comparison of the flow state with the RTQ fill by R58's table, with flow enabled and disabled: a flow character that is on the line is not withdrawn, and without a connection nothing moves; the comparison follows a rise and a fall of the fill. The codes of a flag are listed. -/
def Obligations.TransmitCommandsActAndFlowCompares : Prop :=
  (flag? 0 = some false ∧ flag? 1 = some true ∧ ∀ b : Byte, 2 ≤ b.toNat → flag? b = none)
  ∧ (∀ (p : List Byte) (s : State), p.length ≤ 72 →
    let w := s.wake .command
    (7 ≤ p.length → 2 ≤ (byteAt p 0).toNat → Completes (.configFlow p) s (w.respond { result := .badField }))
    ∧ (7 ≤ p.length → ∀ enable, flag? (byteAt p 0) = some enable →
        let high := max 1 (min 256 (wordAt p 1))
        let low := min 255 (wordAt p 3)
        Completes (.configFlow p) s (((w.setTx { w.tx with
            flowSettings := { enable := enable, high := high, low := if low < high then low else high - 1
                              holdCode := byteAt p 5, resumeCode := byteAt p 6 } }).flowCompare).respond { result := .done }))
    ∧ (s.tx.ttq.length + p.length ≤ 128 ∨ p = [] → Completes (.sendText p) s
        ((w.setTx { w.tx with ttq := w.tx.ttq ++ p }).respond { result := .done }))
    ∧ (128 < s.tx.ttq.length + p.length → p ≠ [] → Completes (.sendText p) s (w.respond { result := .full }))
    ∧ (s.line.state = .online ∨ s.line.state = .fade → Completes (.sendBreak p) s
        ((w.setTx { w.tx with breakPending := true }).respond { result := .done }))
    ∧ (s.line.state ≠ .online → s.line.state ≠ .fade → Completes (.sendBreak p) s (w.respond { result := .done })))
  ∧ (∀ s : State,
    let f := s.tx.flowSettings
    let fill := s.rtq.length
    let onLine := ∃ code start, s.tx.progress = .char code true start
    let becomes (x : FlowState) : Prop := s.flowCompare = s.setTx { s.tx with flow := x }
    (s.line.state ≠ .online → s.line.state ≠ .fade → s.flowCompare = s)
    ∧ (s.line.state = .online ∨ s.line.state = .fade →
        (s.tx.flow = .flowing →
          (f.enable = true → f.high ≤ fill → becomes .holdPending) ∧ (f.enable = false ∨ fill < f.high → becomes .flowing))
        ∧ (s.tx.flow = .holdPending →
          (onLine → becomes .holdPending)
          ∧ (¬ onLine → f.enable = false ∨ fill < f.high → becomes .flowing)
          ∧ (¬ onLine → f.enable = true → f.high ≤ fill → becomes .holdPending))
        ∧ (s.tx.flow = .held →
          (f.enable = false ∨ fill ≤ f.low → becomes .resumePending) ∧ (f.enable = true → f.low < fill → becomes .held))
        ∧ (s.tx.flow = .resumePending →
          (onLine ∨ f.enable = false ∨ fill ≤ f.low → becomes .resumePending)
          ∧ (¬ onLine → f.enable = true → f.low < fill → becomes .held))))
  ∧ ∀ (s : State) (c : TextCell) (rest : List TextCell), s.rtq = c :: rest →
      s.routeHead.tx.flow = (s.setRtq rest).flowCompare.tx.flow

/-- LOAD SLOT, REQUEST SLOT and ABORT SLOT in every slot state: the slot number first, then the state, then the other fields. The segment codes are listed. -/
def Obligations.SlotCommandsAct : Prop :=
  (([0, 1, 2, 3] : List Byte).map segment? = [some .whole, some .first, some .middle, some .last]
    ∧ ∀ b : Byte, 4 ≤ b.toNat → segment? b = none)
  ∧ (∀ (n : Nat) (b : Byte) (x : Fin n), fin? n b = some x ↔ b.toNat = x.val)
  ∧ ∀ (p : List Byte) (s : State), 1 ≤ p.length → p.length ≤ 72 →
    let w := s.wake .command
    (4 ≤ (byteAt p 0).toNat → (3 ≤ p.length → Completes (.loadSlot p) s (w.respond { result := .badField }))
      ∧ Completes (.requestSlot p) s (w.respond { result := .badField })
      ∧ Completes (.abortSlot p) s (w.respond { result := .badField }))
    ∧ ∀ n, fin? 4 (byteAt p 0) = some n →
      let x := s.tx.slots[n]
      let put (y : Slot) : State := w.setTx { w.tx with slots := w.tx.slots.set n y }
      (3 ≤ p.length → x.state = .requested ∨ x.state = .sending →
        Completes (.loadSlot p) s (w.respond { result := .busy }))
      ∧ (3 ≤ p.length → x.state ≠ .requested → x.state ≠ .sending →
          16 ≤ (byteAt p 1).toNat ∨ 4 ≤ (byteAt p 2).toNat ∨ ¬ p.length - 3 ∈ [0, 2, 4, 8, 12, 16, 32, 48] →
          Completes (.loadSlot p) s (w.respond { result := .badField }))
      ∧ (3 ≤ p.length → x.state ≠ .requested → x.state ≠ .sending → ∀ route segment,
          fin? 16 (byteAt p 1) = some route → segment? (byteAt p 2) = some segment →
          p.length - 3 ∈ [0, 2, 4, 8, 12, 16, 32, 48] → Completes (.loadSlot p) s
            ((put { state := .loaded, route := route, segment := segment, payload := p.drop 3, abortNoted := false }).respond
              { result := .done }))
      ∧ (x.state = .loaded ∨ x.state = .sent ∨ x.state = .aborted →
          Completes (.requestSlot p) s ((put { x with state := .requested }).respond { result := .done }))
      ∧ (x.state = .free ∨ x.state = .requested ∨ x.state = .sending →
          Completes (.requestSlot p) s (w.respond { result := .busy }))
      ∧ (x.state = .requested → Completes (.abortSlot p) s
          (((put { x with state := .aborted }).post (.slotDone n .aborted)).respond { result := .done }))
      ∧ (x.state = .sending →
          Completes (.abortSlot p) s ((put { x with abortNoted := true }).respond { result := .done }))
      ∧ (x.state ≠ .requested → x.state ≠ .sending → Completes (.abortSlot p) s (w.respond { result := .done }))

/-- The bits of a character on the line in each frame format, ten bit times of start bit, data, parity and stop bit, and of a Break, two character times of space (R2, R48). The items of a record (R49), its header byte (R24) and its length; and what a reply's record is: ACK, NAK with its reason and the refused kind, STATUS with the first 16 bytes of the status response. The end of an item: a character or a Break frees the transmitter, a flow character moves the flow state and compares it, an item of a record is followed by the next, and the last one ends the record, a slot becoming SENT with its Slot Done notice. The segment codes of the route byte are listed. -/
def Obligations.ItemEndFreesTransmitter : Prop :=
  ([Segment.whole, .first, .middle, .last].map Segment.bits = [0, 1, 2, 3])
  ∧ (∀ (f : Format) (code : Byte), let bits := TxItem.lineBits f (.char code)
      bits.length = 10 ∧ bits[0]? = some false ∧ bits[9]? = some true
      ∧ (∀ i : Nat, i < 7 → bits[i + 1]? = some (code.getLsbD i))
      ∧ (f = .f8N1 → bits[8]? = some (code.getLsbD 7))
      ∧ (f = .f7E1 → ((bits.drop 1).take 8).count true % 2 = 0)
      ∧ (f = .f7O1 → ((bits.drop 1).take 8).count true % 2 = 1))
  ∧ (∀ f : Format, TxItem.lineBits f .brk = List.replicate 20 false)
  ∧ (∀ (f : Format) (item : TxItem), (item.lineBits f).length = 10 * item.chars)
  ∧ (∀ (station : Fin 31) (r : OutRecord) (len : BitVec 3), payloadLength len = r.payload.length →
    ∃ header route : Byte, headerOk header = true ∧ headerKind header = r.kind ∧ headerLenCode header = len
      ∧ route.toNat = r.route.val + 16 * r.segment.bits.toNat
      ∧ (let covered := header :: BitVec.ofNat 8 station.val :: route :: r.payload
        let crc := covered.foldl crcByte 0xFFFF
        frameRecord station r = .brk :: .char 0xC3 :: covered.map TxItem.char
          ++ [.char (crc.extractLsb' 0 8), .char (crc.extractLsb' 8 8)])
      ∧ ((frameRecord station r).map TxItem.chars).sum = r.payload.length + 8)
  ∧ [headerByte 1 0, headerByte 2 1, headerByte 3 5, headerByte 5 4, headerByte 5 7, routeByte 3 .first]
      = [0xC1, 0x8A, 0x6B, 0x25, 0xFD, 0x13]
  ∧ (OutRecord.ack = { kind := 1, route := 0, segment := .whole, payload := [] }
    ∧ (∀ (x : Reason) (k : BitVec 3), OutRecord.nak x k = { kind := 2, route := 0, segment := .whole, payload := [x.code, k.setWidth 8] })
    ∧ [Reason.refused, .busy, .denied, .length, .badField, .kind].map Reason.code = [1, 2, 3, 4, 5, 6]
    ∧ ∀ s : State, OutRecord.status s = { kind := 3, route := 0, segment := .whole, payload := s.statusResponse.take 16 })
  ∧ ∀ (s : State) (start : Nat),
    let c := 10 * bitTime s.line.settings.speed
    let free (t : State) : State := t.setTx { s.tx with progress := .idle }
    (∀ code, s.tx.progress = .char code false start → Completes .transmitItemEnd s (free (s.reach (start + c))))
    ∧ (s.tx.progress = .brk start → Completes .transmitItemEnd s (free (s.reach (start + 2 * c))))
    ∧ (∀ code, s.tx.progress = .char code true start →
        (s.tx.flow = .holdPending → Completes .transmitItemEnd s
          (((s.reach (start + c)).setTx { s.tx with progress := .idle, flow := .held }).flowCompare))
        ∧ (s.tx.flow = .resumePending → Completes .transmitItemEnd s
          (((s.reach (start + c)).setTx { s.tx with progress := .idle, flow := .flowing }).flowCompare)))
    ∧ (∀ source items pos, s.tx.progress = .record source items pos (some start) → ∀ item, items[pos]? = some item →
        let u := s.reach (start + item.chars * c)
        (pos + 1 < items.length →
          Completes .transmitItemEnd s (u.setTx { s.tx with progress := .record source items (pos + 1) none }))
        ∧ (pos + 1 = items.length → source = .reply → Completes .transmitItemEnd s (free u))
        ∧ (∀ n, pos + 1 = items.length → source = .slot n → Completes .transmitItemEnd s
            ((u.setTx { s.tx with
                progress := .idle
                slots := s.tx.slots.set n { s.tx.slots[n] with state := .sent, abortNoted := false } }).post
              (.slotDone n (if s.tx.slots[n].abortNoted then .abortTooLate else .sent)))))

/-- Sections 3.1 and 1.6 (R45, R19): the choice takes the first source with an eligible item, in the order flow character, pending Break, ready reply, lowest REQUESTED slot in 8N1, TTQ; it is made only with nothing in progress where an item may begin; and it begins one item: in SB300 at once, in TA1200 TALKING while the Talk Limit is not passed (log 24: it is passed one unit after it, the model's reading). -/
def Obligations.TransmitterChoosesInOrder : Prop :=
  ∀ s : State,
    let flow := s.tx.flow = .holdPending ∨ s.tx.flow = .resumePending
    let ready := ∃ r, s.engine.reply = some r ∧ r.readyAt ≤ s.now
    let slots := s.line.settings.format = .f8N1 ∧ ∃ n : Fin 4, s.tx.slots[n].state = .requested
    (flow → s.source = some .flow)
    ∧ (¬ flow → s.tx.breakPending = true → s.source = some .brk)
    ∧ (¬ flow → s.tx.breakPending = false → ready → s.source = some .reply)
    ∧ (∀ n : Fin 4, ¬ flow → s.tx.breakPending = false → ¬ ready → s.line.settings.format = .f8N1 →
        s.tx.slots[n].state = .requested → (∀ m : Fin 4, m < n → s.tx.slots[m].state ≠ .requested) →
        s.source = some (.slot n))
    ∧ (¬ flow → s.tx.breakPending = false → ¬ ready → ¬ slots → s.tx.ttq ≠ [] → s.source = some .text)
    ∧ (¬ flow → s.tx.breakPending = false → ¬ ready → ¬ slots → s.tx.ttq = [] → s.source = none)
    ∧ (∀ src, s.txAct = some (.choose src) → s.tx.progress = .idle ∧ s.source = some src ∧ s.line.state = .online
        ∧ (s.line.settings.speed = .sb300 ∨ s.line.direction = some .talking))
    ∧ (∀ src, s.line.state = .online → s.line.settings.speed = .sb300 → s.tx.progress = .idle → s.source = some src →
        s.txAct = some (.choose src) ∧ s.doTx (.choose src) = s.begin src)
    ∧ (∀ src, s.line.state = .online → s.line.settings.speed = .ta1200 → s.line.direction = some .talking →
        s.tx.progress = .idle → (∀ start, s.line.timers.talk = some start → s.now ≤ start + 3000 * s.line.settings.talkMs) →
        s.source = some src → s.txAct = some (.choose src) ∧ s.doTx (.choose src) = s.begin src)
    ∧ (∀ source items pos, s.tx.progress = .record source items pos none → s.line.state = .online →
        s.line.settings.speed = .sb300 ∨ s.line.direction = some .talking →
        s.txAct = some .resume ∧ (s.doTx .resume).tx.progress = .record source items pos (some s.now))
    ∧ (s.tx.flow = .holdPending → (s.begin .flow).tx.progress = .char s.tx.flowSettings.holdCode true s.now)
    ∧ (s.tx.flow = .resumePending → (s.begin .flow).tx.progress = .char s.tx.flowSettings.resumeCode true s.now)
    ∧ ((s.begin .brk).tx.progress = .brk s.now ∧ (s.begin .brk).tx.breakPending = false)
    ∧ (∀ r, s.engine.reply = some r → (s.begin .reply).engine.reply = none
        ∧ (s.begin .reply).tx.progress = .record .reply (frameRecord s.line.settings.station r.record) 0 (some s.now))
    ∧ (∀ n : Fin 4, (s.begin (.slot n)).tx.slots[n].state = .sending
        ∧ (s.begin (.slot n)).tx.progress = .record (.slot n) (frameRecord s.line.settings.station
            { kind := 5, route := s.tx.slots[n].route, segment := s.tx.slots[n].segment, payload := s.tx.slots[n].payload })
            0 (some s.now))
    ∧ (∀ c rest, s.tx.ttq = c :: rest →
        (s.begin .text).tx.ttq = rest ∧ (s.begin .text).tx.progress = .char c false s.now)

/-! ## The keyboard -/

/-- CONFIG KEYBOARD, WRITE KEYMAP and READ KEYMAP: their fields, what they write, and that an entry reads back as it was written while every other stays. Every layer, action and argument code of section 12.4 is listed with its value, both ways. -/
def Obligations.KeyboardTablesAreWritten : Prop :=
  (([0, 1, 2, 3] : List Byte).map layer? = [some .plain, some .shift, some .control, some .function]
    ∧ ∀ b : Byte, 4 ≤ b.toNat → layer? b = none)
  ∧ (∀ (n : Nat) (b : Byte) (x : Fin n), fin? n b = some x ↔ b.toNat = x.val)
  ∧ (keyAction? 0 0 = some .none ∧ keyAction? 5 0 = some .report
    ∧ (∀ arg : Byte, 1 ≤ arg.toNat → keyAction? 0 arg = none ∧ keyAction? 5 arg = none)
    ∧ (∀ arg : Byte, keyAction? 1 arg = some (.character arg))
    ∧ (∀ n : Fin 12, keyAction? 2 (BitVec.ofNat 8 n.val) = some (.softKey n))
    ∧ (∀ arg : Byte, 12 ≤ arg.toNat → keyAction? 2 arg = none)
    ∧ (∀ x ∈ [((0 : Byte), LocalAction.feedLine), (1, .tearFeed), (2, .toggleEcho), (3, .sendBreak), (4, .cancelPrint), (5, .attention)],
        keyAction? 3 x.1 = some (.localAction x.2))
    ∧ (∀ arg : Byte, 6 ≤ arg.toNat → keyAction? 3 arg = none)
    ∧ (∀ x ∈ [((0 : Byte), ModKind.shift), (1, .control), (2, .function), (3, .lock)], keyAction? 4 x.1 = some (.modifier x.2))
    ∧ (∀ arg : Byte, 4 ≤ arg.toNat → keyAction? 4 arg = none)
    ∧ ∀ action arg : Byte, 6 ≤ action.toNat → keyAction? action arg = none)
  ∧ (KeyAction.none.bytes = [0, 0] ∧ KeyAction.report.bytes = [5, 0] ∧ (∀ c : Byte, (KeyAction.character c).bytes = [1, c])
    ∧ (∀ n : Fin 12, (KeyAction.softKey n).bytes = [2, BitVec.ofNat 8 n.val])
    ∧ [LocalAction.feedLine, .tearFeed, .toggleEcho, .sendBreak, .cancelPrint, .attention].map (fun a => (KeyAction.localAction a).bytes)
      = [[3, 0], [3, 1], [3, 2], [3, 3], [3, 4], [3, 5]]
    ∧ [ModKind.shift, .control, .function, .lock].map (fun m => (KeyAction.modifier m).bytes) = [[4, 0], [4, 1], [4, 2], [4, 3]])
  ∧ (∀ (p : List Byte) (s : State), 7 ≤ p.length → p.length ≤ 72 →
    let w := s.wake .command
    (16 ≤ (byteAt p 6).toNat → Completes (.configKeyboard p) s (w.respond { result := .badField }))
    ∧ (∀ route, fin? 16 (byteAt p 6) = some route → Completes (.configKeyboard p) s ((w.setKeys { w.keys with
        settings := { press := max 1 (min 15 (byteAt p 0).toNat), release := max 1 (min 15 (byteAt p 1).toNat)
                      delayMs := max 100 (min 1500 (wordAt p 2 / 50 * 50))
                      intervalMs := max 50 (min 500 (wordAt p 4 / 10 * 10)), route := route } }).respond { result := .done })))
  ∧ (∀ (p : List Byte) (s : State), 4 ≤ p.length → p.length ≤ 72 →
    let w := s.wake .command
    (96 ≤ (byteAt p 0).toNat ∨ 4 ≤ (byteAt p 1).toNat ∨ keyAction? (byteAt p 2) (byteAt p 3) = none →
      Completes (.writeKeymap p) s (w.respond { result := .badField }))
    ∧ (∀ k l a, fin? 96 (byteAt p 0) = some k → layer? (byteAt p 1) = some l →
        keyAction? (byteAt p 2) (byteAt p 3) = some a →
        Completes (.writeKeymap p) s
          ((w.setKeys { w.keys with keymap := keymapWrite w.keys.keymap (keymapIndex k l) a }).respond { result := .done })))
  ∧ (∀ (p : List Byte) (s : State), 2 ≤ p.length → p.length ≤ 72 →
    let w := s.wake .command
    (96 ≤ (byteAt p 0).toNat ∨ 4 ≤ (byteAt p 1).toNat → Completes (.readKeymap p) s (w.respond { result := .badField }))
    ∧ (∀ k l, fin? 96 (byteAt p 0) = some k → layer? (byteAt p 1) = some l →
        Completes (.readKeymap p) s (w.respond { result := .done, payload := (s.keys.entry k l).bytes })))
  ∧ (∀ (k : Keyboard) (key key' : Fin 96) (l l' : Layer) (a : KeyAction),
      let k' := { k with keymap := keymapWrite k.keymap (keymapIndex key l) a }
      (k.keymap.Pairwise fun e f => e.1 < f.1) →
      k'.entry key l = a ∧ (key' ≠ key ∨ l' ≠ l → k'.entry key' l' = k.entry key' l')
      ∧ (k'.keymap.Pairwise fun e f => e.1 < f.1))
  ∧ ∀ (action arg : Byte) (a : KeyAction), keyAction? action arg = some a → a.bytes = [action, arg]

/-- R66: Shift, Control and Function are held while a key of the Down Set was recorded as such a modifier; the layer is the first that applies of Function, Control, Shift (held, or Lock on) and Plain; a release takes the key out of the Down Set and leaves Lock and the events; a Lock press toggles Lock; a repeat carries the layer of its key's press. -/
def Obligations.LayerFollowsModifiers : Prop :=
  (∀ (k : Keyboard) (m : ModKind), k.held m = true ↔ ∃ d ∈ k.down, d.modifier = some m)
  ∧ (∀ k : Keyboard,
      (k.held .function = true → k.layer = .function)
      ∧ (k.held .function = false → k.held .control = true → k.layer = .control)
      ∧ (k.held .function = false → k.held .control = false → k.held .shift = true ∨ k.lock = true → k.layer = .shift)
      ∧ (k.held .function = false → k.held .control = false → k.held .shift = false → k.lock = false → k.layer = .plain))
  ∧ (∀ (k : Keyboard) (key : Fin 96), (k.release key).down = k.down.filter (fun d => d.key ≠ key)
      ∧ (k.release key).lock = k.lock ∧ (k.release key).events = k.events
      ∧ ((k.release key).repeating = k.repeating ∨ (k.release key).repeating = none))
  ∧ (∀ (s : State) (r : RepeatKey), s.keys.events.length < 4 →
      (s.repeatExpiry r).keys.events = s.keys.events ++ [{ key := r.key, layer := r.layer, kind := .repeated }])
  ∧ (∀ (s : State) (key : Fin 96) (m : ModKind), s.mon.power = .run → s.keys.entry key .plain = .modifier m →
      (s.admitPress key).keys.down = s.keys.down ++ [{ key := key, modifier := some m }]
      ∧ (s.admitPress key).keys.lock = (if m = .lock then !s.keys.lock else s.keys.lock)
      ∧ (s.admitPress key).keys.events = s.keys.events ∧ (s.admitPress key).keys.repeating = s.keys.repeating)
  ∧ ∀ (s : State) (key : Fin 96) (layer : Layer), s.mon.power = .run → (∀ m, s.keys.entry key .plain ≠ .modifier m) →
      s.keys.layer = layer → s.keys.entry key layer ≠ .localAction .sendBreak →
      s.keys.entry key layer ≠ .localAction .cancelPrint → s.keys.events.length < 24 →
      (s.admitPress key).keys.down = s.keys.down ++ [{ key := key, modifier := none }]
      ∧ (s.admitPress key).keys.lock = s.keys.lock
      ∧ (s.admitPress key).keys.events = s.keys.events ++ [{ key := key, layer := layer, kind := .press }]
      ∧ (s.admitPress key).keys.repeating
          = some { key := key, layer := layer, due := s.now + 3000 * s.keys.settings.delayMs }

/-- A scan comes at its moment, counts every key (R62), makes the qualified releases and the ends of awaiting release, then the presses, each in ascending key number (R61, R70, R79), and sets the next one. Immediate actions act at the press, with no event and no repeat (R67); a press at a full Key Event List raises Key Lost and keeps its repeat armed (R68). With all keys open and none down or awaiting release it leaves every count at 0; the scan at which one closed key reaches the Press Count admits it; a key is Blocked by six keys down or by the ghost rule. A repeat attempt makes a Repeat event with the key and layer of the repeating key while fewer than 4 events wait, and sets the timer for the Repeat Interval in either case. A press admitted in Doze wakes the part and is then handled as in Run (R78). That the scan of a waking press still sets the next scan by the interval of Doze is log 17, the model's reading. -/
def Obligations.ScansAndRepeatsMakeEvents : Prop :=
  (∀ (closed : BitVec 96) (s : State), Completes (.scan closed) s ((s.reach s.keys.nextScan).scanMatrix closed))
  ∧ (∀ (closed : BitVec 96) (s : State),
      let k := (List.finRange 96).foldl (Keyboard.releaseStep closed) (s.keys.countScan closed)
      s.scanMatrix closed = (List.finRange 96).foldl (State.pressStep closed)
        (s.setKeys { k with nextScan := s.now + (if s.mon.power = .run then 12000 else 96000) }))
  ∧ (∀ (closed : BitVec 96) (k : Keyboard) (key : Fin 96),
      let down := ∃ d ∈ k.down, d.key = key
      let awaits := k.awaiting.getLsbD key.val = true
      let isClosed := closed.getLsbD key.val = true
      ({ k with counts := (k.countScan closed).counts } = k.countScan closed)
      ∧ (down ∨ awaits → (isClosed → (k.countScan closed).count key = 0)
          ∧ (¬ isClosed → (k.countScan closed).count key = min 15 (k.count key + 1)))
      ∧ (¬ down → ¬ awaits → (isClosed → (k.countScan closed).count key = min 15 (k.count key + 1))
          ∧ (¬ isClosed → (k.countScan closed).count key = 0))
      ∧ (isClosed ∨ k.count key < k.settings.release ∨ ¬ (down ∨ awaits) → k.releaseStep closed key = k)
      ∧ (¬ isClosed → k.settings.release ≤ k.count key → down → k.releaseStep closed key = { k with
          counts := k.counts.set key.val 0
          down := k.down.filter (fun d => d.key ≠ key)
          repeating := if ∃ r, k.repeating = some r ∧ r.key = key then none else k.repeating })
      ∧ (¬ isClosed → k.settings.release ≤ k.count key → ¬ down → awaits → k.releaseStep closed key = { k with
          counts := k.counts.set key.val 0, awaiting := k.awaiting &&& ~~~(1#96 <<< key.val) }))
  ∧ (∀ (closed : BitVec 96) (s : State) (key : Fin 96),
      let qualified := closed.getLsbD key.val = true ∧ s.keys.settings.press ≤ s.keys.count key
        ∧ (∀ d ∈ s.keys.down, d.key ≠ key) ∧ s.keys.awaiting.getLsbD key.val = false
      (qualified → s.keys.blocked key = false → s.pressStep closed key = s.admitPress key)
      ∧ (¬ qualified ∨ s.keys.blocked key = true → s.pressStep closed key = s))
  ∧ (∀ (s : State) (key : Fin 96), s.mon.power = .doze → (s.wake .keyPress).mon.power = .run
      ∧ s.admitPress key = (s.wake .keyPress).admitPress key)
  ∧ (∀ (s : State) (key : Fin 96) (layer : Layer), s.mon.power = .run → (∀ m, s.keys.entry key .plain ≠ .modifier m) →
      s.keys.layer = layer →
      let pressed : DownKey := { key := key, modifier := none }
      let entered : Keyboard := { s.keys with counts := s.keys.counts.set key.val 0, down := s.keys.down ++ [pressed] }
      let u := s.setKeys { entered with repeating := none }
      (s.keys.entry key layer = .localAction .sendBreak →
        (s.line.state = .online ∨ s.line.state = .fade → s.admitPress key = u.setTx { s.tx with breakPending := true })
        ∧ (s.line.state ≠ .online → s.line.state ≠ .fade → s.admitPress key = u))
      ∧ (s.keys.entry key layer = .localAction .cancelPrint →
        (s.arb.hold = none → s.admitPress key = u)
        ∧ (∀ p, s.arb.hold = some p →
          ((∃ l, s.comp.line = some l ∧ l.port = p.toPort ∧ l.jobEnd = true) → s.admitPress key = u)
          ∧ (¬ (∃ l, s.comp.line = some l ∧ l.port = p.toPort ∧ l.jobEnd = true) → s.admitPress key = u.cancelJob p)))
      ∧ (s.keys.entry key layer ≠ .localAction .sendBreak → s.keys.entry key layer ≠ .localAction .cancelPrint →
          24 ≤ s.keys.events.length →
          let due := s.now + 3000 * s.keys.settings.delayMs
          s.admitPress key = (s.setKeys { entered with repeating := some { key := key, layer := layer, due := due } }).raise .keyLost))
  ∧ (∀ s : State, s.keys.down = [] → s.keys.awaiting = 0 →
      s.scanMatrix 0 = s.setKeys { s.keys with
        counts := List.replicate 96 0, nextScan := s.now + (if s.mon.power = .run then 12000 else 96000) })
  ∧ (∀ (s : State) (key : Fin 96), s.mon.power = .run → s.keys.down = [] → s.keys.awaiting = 0 →
      s.keys.count key < 15 →
      let after := s.setKeys { s.keys with
        counts := (List.replicate 96 0).set key.val (s.keys.count key + 1), nextScan := s.now + 12000 }
      (s.keys.count key + 1 < s.keys.settings.press → s.scanMatrix (1#96 <<< key.val) = after)
      ∧ (s.keys.settings.press ≤ s.keys.count key + 1 → s.scanMatrix (1#96 <<< key.val) = after.admitPress key))
  ∧ (∀ (k : Keyboard) (key : Fin 96), k.blocked key = true ↔ 6 ≤ k.down.length
      ∨ ∃ a ∈ k.down, ∃ b ∈ k.down, ∃ c ∈ k.down,
        a.key.val / 12 = key.val / 12 ∧ a.key.val % 12 ≠ key.val % 12
        ∧ b.key.val % 12 = key.val % 12 ∧ b.key.val / 12 ≠ key.val / 12
        ∧ c.key.val / 12 = b.key.val / 12 ∧ c.key.val % 12 = a.key.val % 12)
  ∧ ∀ (s : State) (r : RepeatKey), s.keys.repeating = some r →
    let u := s.reach r.due
    let next : RepeatKey := { r with due := u.now + 3000 * s.keys.settings.intervalMs }
    (s.keys.events.length < 4 → Completes .repeatTimerExpiry s (u.setKeys { s.keys with
      repeating := some next, events := s.keys.events ++ [{ key := r.key, layer := r.layer, kind := .repeated }] }))
    ∧ (4 ≤ s.keys.events.length → Completes .repeatTimerExpiry s (u.setKeys { s.keys with repeating := some next }))

/-- R73 to R77, the Key Dispatcher: on the head of the Key Event List, each kind of keymap entry: when the event is taken, and what its take does to P1, the TTQ, the CRQ, the route and the causes. A Character or a soft key goes to the sinks of its route in one piece: without Drop When Blocked the event waits until every sink has room for all of it, P1 left out where the sequence is longer than P1; with it the event is taken at once; a sink without room receives nothing, and the drop is marked. -/
def Obligations.KeyEventsAreDispatched : Prop :=
  (∀ s : State, s.keys.events = [] → s.dispatchTakes = false ∧ s.dispatch = s)
  ∧ ∀ (s : State) (e : KeyEvent) (rest : List KeyEvent), s.keys.events = e :: rest →
    let entry := s.keys.entry e.key e.layer
    let u := s.setKeys { s.keys with events := rest }
    let keyRoute := s.keys.settings.route
    let feed (code : Byte) : Prop := (s.dispatchTakes = true ↔ s.arb.p1.cells.length < 32)
      ∧ s.dispatch = u.setArb { s.arb with p1 := { s.arb.p1 with
          cells := s.arb.p1.cells ++ [{ body := .char code (s.store.route keyRoute).style, entered := s.now }]
          admitted := s.arb.p1.admitted + 1 } }
    let delivers (r : Fin 16) (codes : List Byte) : Prop :=
      let x := s.store.route r
      let sent := codes.map fun c => match x.translate with
        | .none => c
        | .upper => if 0x61 ≤ c.toNat ∧ c.toNat ≤ 0x7A then c - 0x20 else c
        | .sevenBit => c &&& 0x7F
      let fits1 := s.arb.p1.cells.length + codes.length ≤ 32
      let fitsT := s.tx.ttq.length + codes.length ≤ 128
      let fitsC := s.crq.length + codes.length ≤ 64
      let lost := (x.print = true ∧ ¬ fits1) ∨ (x.transmit = true ∧ ¬ fitsT) ∨ (x.controller = true ∧ ¬ fitsC)
      let t := s.dispatch
      (s.dispatchTakes = true ↔ x.dropBlocked = true
        ∨ ((x.print = true → fits1 ∨ 32 < codes.length) ∧ (x.transmit = true → fitsT) ∧ (x.controller = true → fitsC)))
      ∧ t.keys = u.keys
      ∧ (x.print = true → fits1 → t.arb = { s.arb with p1 := { s.arb.p1 with
          cells := s.arb.p1.cells ++ sent.map (fun c => { body := .char c x.style, entered := s.now })
          admitted := s.arb.p1.admitted + codes.length } })
      ∧ (x.print = false ∨ ¬ fits1 → t.arb = s.arb)
      ∧ (x.transmit = true → fitsT → t.tx = { s.tx with ttq := s.tx.ttq ++ sent })
      ∧ (x.transmit = false ∨ ¬ fitsT → t.tx = s.tx)
      ∧ (x.controller = true → fitsC → t.crq = s.crq ++ sent.map (fun c => .character r c false))
      ∧ (x.controller = false ∨ ¬ fitsC → t.crq = s.crq)
      ∧ (lost → t.store = s.store.setRoute r { x with overflow := true } ∧ namesCause t.port.causes .routeOverflow = true)
      ∧ (¬ lost → t.store = s.store ∧ t.port = s.port)
      ∧ t.line = s.line ∧ t.engine = s.engine ∧ t.rtq = s.rtq ∧ t.comp = s.comp ∧ t.head = s.head ∧ t.mon = s.mon
    ((entry = .none ∨ ∃ m, entry = .modifier m) → s.dispatchTakes = true ∧ s.dispatch = u)
    ∧ (∀ c, entry = .character c → delivers keyRoute [c])
    ∧ (∀ n, entry = .softKey n → s.store.softKeys[n].string = [] → s.dispatchTakes = true ∧ s.dispatch = u)
    ∧ (∀ n, entry = .softKey n → s.store.softKeys[n].string ≠ [] → delivers s.store.softKeys[n].route s.store.softKeys[n].string)
    ∧ (entry = .localAction .feedLine → feed 0x0A)
    ∧ (entry = .localAction .tearFeed → feed 0x0C)
    ∧ (entry = .localAction .toggleEcho → s.dispatchTakes = true ∧ s.dispatch = u.setStore (s.store.setRoute keyRoute
        { s.store.route keyRoute with print := !(s.store.route keyRoute).print }))
    ∧ (entry = .localAction .attention → s.dispatchTakes = true
        ∧ (s.crq.length < 64 → s.dispatch = u.setCrq (s.crq ++ [.notice (.keyAttention e.key e.layer)]))
        ∧ (64 ≤ s.crq.length → s.dispatch = u.raise .noticeLost))
    ∧ (entry = .localAction .sendBreak → s.dispatchTakes = true
        ∧ (s.line.state = .online ∨ s.line.state = .fade → s.dispatch = u.setTx { s.tx with breakPending := true })
        ∧ (s.line.state ≠ .online → s.line.state ≠ .fade → s.dispatch = u))
    ∧ (entry = .localAction .cancelPrint → s.dispatchTakes = true
        ∧ (s.arb.hold = none → s.dispatch = u)
        ∧ (∀ p, s.arb.hold = some p →
          ((∃ l, s.comp.line = some l ∧ l.port = p.toPort ∧ l.jobEnd = true) → s.dispatch = u)
          ∧ (¬ (∃ l, s.comp.line = some l ∧ l.port = p.toPort ∧ l.jobEnd = true) → s.dispatch = u.cancelJob p)))
    ∧ (entry = .report → (s.dispatchTakes = true ↔ s.crq.length < 64)
        ∧ s.dispatch = u.setCrq (s.crq ++ [.key e.key e.layer]))

/-! ## The Shared Store and the text queues -/

/-- WRITE STORE under each selector: how its bytes are read (section 12.3), its refusals, what is written and what stays; READ STORE's bytes under each selector; and SET REMOTE MASK. A payload under two bytes is short (R89); a remote write of a route leaves the others. -/
def Obligations.StoreIsWrittenAndRead : Prop :=
  (flag? 0 = some false ∧ flag? 1 = some true ∧ ∀ b : Byte, 2 ≤ b.toNat → flag? b = none)
  ∧ (∀ (p : List Byte) (s : State), 2 ≤ p.length → p.length ≤ 72 →
    let w := s.wake .command
    (checkStore p = .short ∨ checkStore p = .badField → Completes (.writeStore p) s (w.respond { result := .badField }))
    ∧ (∀ x, checkStore p = .ok x →
        (s.store.fits x = false → Completes (.writeStore p) s (w.respond { result := .full }))
        ∧ (s.store.fits x = true → Completes (.writeStore p) s
            ((w.setStore (w.store.write x)).respond { result := .done }))))
  ∧ (∀ p : List Byte, p.length < 2 → checkStore p = .short)
  ∧ (∀ p : List Byte, 2 ≤ p.length → byteAt p 0 = 0 ∨ 5 ≤ (byteAt p 0).toNat → checkStore p = .badField)
  ∧ (∀ p : List Byte, 2 ≤ p.length → byteAt p 0 = 1 →
      let a := byteAt p 2
      let b := byteAt p 3
      let wrong := 2 ≤ b.toNat ∨ (a.getLsbD 3 = true ∧ a.getLsbD 4 = true)
      (16 ≤ (byteAt p 1).toNat → checkStore p = .badField)
      ∧ (∀ n : Fin 16, byteAt p 1 = BitVec.ofNat 8 n.val →
          (p.length < 4 → checkStore p = .short)
          ∧ (4 ≤ p.length → wrong → checkStore p = .badField)
          ∧ (4 ≤ p.length → ¬ wrong → checkStore p = .ok (.route n
              { print := a.getLsbD 0, transmit := a.getLsbD 1, controller := a.getLsbD 2
                translate := if a.getLsbD 4 then .sevenBit else if a.getLsbD 3 then .upper else .none
                style := if a.getLsbD 6 then (if a.getLsbD 5 then .inverse else .tall) else if a.getLsbD 5 then .wide else .normal
                dropBlocked := a.getLsbD 7, locked := b.getLsbD 0, overflow := false }))))
  ∧ (∀ p : List Byte, 2 ≤ p.length → byteAt p 0 = 2 →
      let len := (byteAt p 2).toNat
      (12 ≤ (byteAt p 1).toNat % 16 → checkStore p = .badField)
      ∧ (∀ (n : Fin 12) (route : Fin 16), byteAt p 1 = BitVec.ofNat 8 (n.val + 16 * route.val) →
          (p.length < 3 + len → checkStore p = .short)
          ∧ (3 + len ≤ p.length → 64 < len → checkStore p = .badField)
          ∧ (3 + len ≤ p.length → len ≤ 64 → checkStore p = .ok (.softKey n { string := (p.drop 3).take len, route := route }))))
  ∧ (∀ p : List Byte, 2 ≤ p.length → byteAt p 0 = 3 →
      (32 ≤ (byteAt p 1).toNat → checkStore p = .badField)
      ∧ (∀ n : Fin 32, byteAt p 1 = BitVec.ofNat 8 n.val →
          (p.length < 27 → checkStore p = .short)
          ∧ (27 ≤ p.length → 2 ≤ (byteAt p 2).toNat → checkStore p = .badField)
          ∧ (27 ≤ p.length → (byteAt p 2).toNat < 2 → ∃ g : Glyph, checkStore p = .ok (.glyph n g)
              ∧ (g.valid = true ↔ byteAt p 2 = 1)
              ∧ ∀ c : Fin 12, ∀ r : Fin 16,
                  Pattern.dot g.pattern c.val r.val = (byteAt p (3 + 2 * c.val + r.val / 8)).getLsbD (r.val % 8))))
  ∧ (∀ p : List Byte, 2 ≤ p.length → byteAt p 0 = 4 → (16 ≤ (byteAt p 1).toNat → checkStore p = .badField)
      ∧ ((byteAt p 1).toNat < 16 → p.length < 4 → checkStore p = .short))
  ∧ (∀ (p : List Byte) (n : Fin 16), 4 ≤ p.length → byteAt p 0 = 4 → byteAt p 1 = BitVec.ofNat 8 n.val →
      checkStore p = .ok (.energy n
        (if n.val ≤ 7 then max 100 (min 3000 (wordAt (p.drop 2) 0))
         else if n.val = 8 then min 7 (wordAt (p.drop 2) 0)
         else if n.val = 9 then min 31 (wordAt (p.drop 2) 0) else min 15 (wordAt (p.drop 2) 0))))
  ∧ (∀ (st : Store) (n : Fin 12) (k : SoftKey), st.fits (.softKey n k) = true ↔
      st.poolTotal - st.softKeys[n].string.length + k.string.length ≤ 320)
  ∧ (∀ (st : Store) (n : Fin 16) (e : Route), st.fits (.route n e) = true)
  ∧ (∀ (st : Store) (n : Fin 32) (g : Glyph), st.fits (.glyph n g) = true)
  ∧ (∀ (st : Store) (n : Fin 16) (v : Nat), st.fits (.energy n v) = true)
  ∧ (∀ (st : Store) (n : Fin 16) (e : Route), (st.write (.route n e)).route n = { e with overflow := false }
      ∧ (st.remoteWrite (.route n e)).route n = { e with overflow := false, locked := (st.route n).locked }
      ∧ (∀ m : Fin 16, m ≠ n → (st.write (.route n e)).route m = st.route m)
      ∧ ({ st.write (.route n e) with routes := st.routes } : Store) = st
      ∧ (∀ m : Fin 16, m ≠ n → (st.remoteWrite (.route n e)).route m = st.route m)
      ∧ ({ st.remoteWrite (.route n e) with routes := st.routes } : Store) = st)
  ∧ (∀ (st : Store) (n : Fin 12) (k : SoftKey), let t := st.write (.softKey n k)
      t.softKeys[n] = k ∧ (∀ m : Fin 12, m ≠ n → t.softKeys[m] = st.softKeys[m]) ∧ ({ t with softKeys := st.softKeys } : Store) = st
      ∧ st.remoteWrite (.softKey n k) = t)
  ∧ (∀ (st : Store) (n : Fin 32) (g : Glyph), let t := st.write (.glyph n g)
      t.glyphs[n] = g ∧ (∀ m : Fin 32, m ≠ n → t.glyphs[m] = st.glyphs[m]) ∧ ({ t with glyphs := st.glyphs } : Store) = st
      ∧ st.remoteWrite (.glyph n g) = t)
  ∧ (∀ (st : Store) (n : Fin 16) (v : Nat), let t := st.write (.energy n v)
      t.energy[n] = v ∧ (∀ m : Fin 16, m ≠ n → t.energy[m] = st.energy[m]) ∧ ({ t with energy := st.energy } : Store) = st
      ∧ st.remoteWrite (.energy n v) = t)
  ∧ (∀ (p : List Byte) (s : State), 2 ≤ p.length → p.length ≤ 72 →
    let w := s.wake .command
    (s.store.read (byteAt p 0) (byteAt p 1) = none → Completes (.readStore p) s (w.respond { result := .badField }))
    ∧ (∀ bytes, s.store.read (byteAt p 0) (byteAt p 1) = some bytes →
        Completes (.readStore p) s (w.respond { result := .done, payload := bytes })))
  ∧ (∀ (st : Store) (sel idx : Byte),
      sel = 0 ∨ 5 ≤ sel.toNat ∨ (sel = 1 ∧ 16 ≤ idx.toNat) ∨ (sel = 2 ∧ 12 ≤ idx.toNat % 16) ∨ (sel = 3 ∧ 32 ≤ idx.toNat)
        ∨ (sel = 4 ∧ 16 ≤ idx.toNat) → st.read sel idx = none)
  ∧ (∀ (st : Store) (n : Fin 16), let e := st.route n
      ∃ a : Byte, st.read 1 (BitVec.ofNat 8 n.val)
          = some [1, BitVec.ofNat 8 n.val, a, if e.locked then 1 else 0, if e.overflow then 1 else 0]
        ∧ a.getLsbD 0 = e.print ∧ a.getLsbD 1 = e.transmit ∧ a.getLsbD 2 = e.controller
        ∧ (a.getLsbD 3 = true ↔ e.translate = .upper) ∧ (a.getLsbD 4 = true ↔ e.translate = .sevenBit)
        ∧ (a.getLsbD 5 = true ↔ e.style = .wide ∨ e.style = .inverse) ∧ (a.getLsbD 6 = true ↔ e.style = .tall ∨ e.style = .inverse)
        ∧ a.getLsbD 7 = e.dropBlocked)
  ∧ (∀ (st : Store) (n : Fin 12) (idx : Byte), idx.toNat % 16 = n.val → let k := st.softKeys[n]
      st.read 2 idx = some (2 :: BitVec.ofNat 8 (n.val + 16 * k.route.val) :: BitVec.ofNat 8 k.string.length :: k.string))
  ∧ (∀ (st : Store) (n : Fin 32), let g := st.glyphs[n]
      ∃ bytes : List Byte, st.read 3 (BitVec.ofNat 8 n.val) = some (3 :: BitVec.ofNat 8 n.val :: (if g.valid then 1 else 0) :: bytes)
        ∧ bytes.length = 24
        ∧ ∀ c : Fin 12, ∀ r : Fin 16,
            (byteAt bytes (2 * c.val + r.val / 8)).getLsbD (r.val % 8) = Pattern.dot g.pattern c.val r.val)
  ∧ (∀ (st : Store) (n : Fin 16), st.read 4 (BitVec.ofNat 8 n.val)
      = some [4, BitVec.ofNat 8 n.val, BitVec.ofNat 8 st.energy[n], BitVec.ofNat 8 (st.energy[n] / 256)])
  ∧ ∀ (p : List Byte) (s : State), 4 ≤ p.length → p.length ≤ 72 →
    let w := s.wake .command
    (2 ≤ (byteAt p 0).toNat ∨ 2 ≤ (byteAt p 1).toNat ∨ 2 ≤ (byteAt p 2).toNat ∨ 2 ≤ (byteAt p 3).toNat →
      Completes (.setRemoteMask p) s (w.respond { result := .badField }))
    ∧ (∀ a b c d, flag? (byteAt p 0) = some a → flag? (byteAt p 1) = some b → flag? (byteAt p 2) = some c →
        flag? (byteAt p 3) = some d → Completes (.setRemoteMask p) s
          ((w.setStore { w.store with remoteMask := { routes := a, softKeys := b, glyphs := c, energy := d } }).respond
            { result := .done, payload := [byteAt p 0, byteAt p 1, byteAt p 2, byteAt p 3] }))

/-- R98: the route's Translate applied at the take: None leaves the code, Upper replaces 61h to 7Ah by 41h to 5Ah, Seven-bit clears bit 7; a substituted cell is delivered untranslated; the substituted flag reaches the Controller sink only. -/
def Obligations.RouterTranslates : Prop :=
  (∀ (s : State) (c : TextCell), c.substituted = true → s.deliveredCode c = c.code)
  ∧ (∀ (s : State) (c : TextCell), c.substituted = false →
      ((s.store.route c.route).translate = .none → s.deliveredCode c = c.code)
      ∧ ((s.store.route c.route).translate = .upper →
          (0x61 ≤ c.code.toNat → c.code.toNat ≤ 0x7A → (s.deliveredCode c).toNat = c.code.toNat - 0x20)
          ∧ (c.code.toNat < 0x61 ∨ 0x7A < c.code.toNat → s.deliveredCode c = c.code))
      ∧ ((s.store.route c.route).translate = .sevenBit → (s.deliveredCode c).toNat = c.code.toNat % 128))
  ∧ ∀ (s : State) (c : TextCell) (rest : List TextCell), s.rtq = c :: rest →
      let e := s.store.route c.route
      s.arb.p0.cells.length < 160 → s.tx.ttq.length < 128 → s.crq.length < 64 →
      s.routeTakes = true
      ∧ s.routeHead.rtq = rest
      ∧ s.routeHead.arb.p0.cells = (if e.print then
          s.arb.p0.cells ++ [{ body := .char (s.deliveredCode c) e.style, entered := s.now }] else s.arb.p0.cells)
      ∧ s.routeHead.tx.ttq = (if e.transmit then s.tx.ttq ++ [s.deliveredCode c] else s.tx.ttq)
      ∧ s.routeHead.crq = (if e.controller then
          s.crq ++ [.character c.route (s.deliveredCode c) c.substituted] else s.crq)
      ∧ s.routeHead.store = s.store ∧ s.routeHead.port = s.port ∧ s.routeHead.line = s.line ∧ s.routeHead.keys = s.keys

/-- Blocked sinks: without Drop When Blocked one blocked sink makes the head cell wait; with it the cell is taken, every sink of the route that has room receives its unit, the blocked sinks receive nothing, and the route's Overflow flag and the Route Overflow cause are set. -/
def Obligations.BlockedSinkWaitsOrDrops : Prop :=
  ∀ (s : State) (c : TextCell) (rest : List TextCell), s.rtq = c :: rest →
    let e := s.store.route c.route
    let noPrint := e.print = true ∧ 160 ≤ s.arb.p0.cells.length
    let noTransmit := e.transmit = true ∧ 128 ≤ s.tx.ttq.length
    let noController := e.controller = true ∧ 64 ≤ s.crq.length
    (e.dropBlocked = false → (s.routeTakes = false ↔ noPrint ∨ noTransmit ∨ noController))
    ∧ (e.dropBlocked = true → s.routeTakes = true)
    ∧ (noPrint ∨ noTransmit ∨ noController →
        (s.routeHead.store.route c.route).overflow = true ∧ namesCause s.routeHead.port.causes .routeOverflow = true
        ∧ s.routeHead.rtq = rest)
    ∧ (¬ noPrint → ¬ noTransmit → ¬ noController → s.routeHead.store = s.store ∧ s.routeHead.port = s.port)
    ∧ (e.print = true → s.arb.p0.cells.length < 160 → s.routeHead.arb = { s.arb with p0 := { s.arb.p0 with
        cells := s.arb.p0.cells ++ [{ body := .char (s.deliveredCode c) e.style, entered := s.now }]
        admitted := s.arb.p0.admitted + 1 } })
    ∧ (noPrint ∨ e.print = false → s.routeHead.arb = s.arb)
    ∧ (e.transmit = true → s.tx.ttq.length < 128 → s.routeHead.tx.ttq = s.tx.ttq ++ [s.deliveredCode c])
    ∧ (noTransmit ∨ e.transmit = false → s.routeHead.tx.ttq = s.tx.ttq)
    ∧ (e.controller = true → s.crq.length < 64 →
        s.routeHead.crq = s.crq ++ [.character c.route (s.deliveredCode c) c.substituted])
    ∧ (noController ∨ e.controller = false → s.routeHead.crq = s.crq)
    ∧ (∀ n : Fin 16, n ≠ c.route → s.routeHead.store.route n = s.store.route n)

/-! ## Print ports, jobs and grants -/

/-- R116, the walk that finds a text line, by the cell it meets; a line and what stays are the port's cells, and no line is empty; R117, when a port is eligible and what it would be granted; and the Composer (R138, R120): it appends one entry where the Row Queue has a free place, and finishes a line without entries left, a JobEnd in it releasing its port's Hold and posting "complete". -/
def Obligations.LinesAreCutAndFinished : Prop :=
  (∀ (cr : CrMode) (pos : Nat) (back : List Nat) (passed rest : List PortCell) (c : PortCell),
    let walk := walkLine cr pos back passed
    (walk [] = none)
    ∧ (c.body = .jobStart → (passed = [] → walk (c :: rest) = some ([c], rest))
        ∧ (passed ≠ [] → walk (c :: rest) = some (passed.reverse, c :: rest)))
    ∧ (c.body = .jobEnd → walk (c :: rest) = some (passed.reverse ++ [c], rest))
    ∧ ∀ (code : Byte) (style : Style), c.body = .char code style →
        let w := if style = .wide then 24 else 12
        let tab := pos / 96 * 96 + 96
        (0x20 ≤ code.toNat →
          (384 < pos + w → walk (c :: rest) = some (passed.reverse, c :: rest))
          ∧ (pos + w ≤ 384 → walk (c :: rest) = walkLine cr (pos + w) (w :: back) (c :: passed) rest))
        ∧ (code = 0x0A ∨ code = 0x0C ∨ (code = 0x0D ∧ cr = .newLine) → walk (c :: rest) = some (passed.reverse ++ [c], rest))
        ∧ (code = 0x09 →
          (384 < tab → walk (c :: rest) = some (passed.reverse ++ [c], rest))
          ∧ (tab ≤ 384 → walk (c :: rest) = walkLine cr tab back (c :: passed) rest))
        ∧ (code = 0x08 →
          (back = [] → walk (c :: rest) = walkLine cr pos [] (c :: passed) rest)
          ∧ (∀ last before, back = last :: before → walk (c :: rest) = walkLine cr (pos - last) before (c :: passed) rest))
        ∧ (code.toNat < 0x20 → code ≠ 0x08 → code ≠ 0x09 → code ≠ 0x0A → code ≠ 0x0C → (code = 0x0D → cr = .ignore) →
          walk (c :: rest) = walkLine cr pos back (c :: passed) rest))
  ∧ (∀ (cr : CrMode) (cells line rest : List PortCell), completeLine cr cells = walkLine cr 0 [] [] cells
      ∧ (completeLine cr cells = some (line, rest) → line ++ rest = cells ∧ line ≠ []))
  ∧ (∀ (s : State) (q : PortId), let cells := (s.arb.port q).cells
      let complete := completeLine s.comp.settings.crMode cells
      let aged := ∃ c rest, cells = c :: rest ∧ c.entered + 3000 * s.arb.settings.partialMs ≤ s.now
      (s.eligible q = true ↔ complete ≠ none ∨ aged)
      ∧ (complete ≠ none → s.textLine q = complete)
      ∧ (complete = none → aged → s.textLine q = some (cells, [])))
  ∧ (∀ c : Composer,
      (c.canAppend = true ↔ ∃ l, c.line = some l ∧ l.entries ≠ [] ∧ c.rows.length < 4)
      ∧ (c.canFinish = true ↔ ∃ l, c.line = some l ∧ l.entries = [])
      ∧ ∀ l e es, c.line = some l → l.entries = e :: es →
          c.append = { c with line := some { l with entries := es }, rows := c.rows ++ [e] })
  ∧ ∀ (s : State) (l : CompLine), s.comp.line = some l →
      let u := s.setComp { s.comp with line := none }
      (l.jobEnd = false → s.finishLine = u)
      ∧ ∀ p : JobPort, l.jobEnd = true → l.port = p.toPort →
          let released := if s.arb.hold = some p then u.setArb { s.arb with hold := none, stall := none } else u
          (s.crq.length < 64 → s.finishLine = released.setCrq (s.crq ++ [.notice (.jobEvent p .complete)]))
          ∧ (64 ≤ s.crq.length → s.finishLine = released.raise .noticeLost)

/-- R113: the admission table: the cells, the room, the job state after and the outcome for each job state and segment; an admission is one event at the tail; refused where the room is less. The segment and style codes are listed. -/
def Obligations.AdmissionTable : Prop :=
  (([0, 1, 2, 3] : List Byte).map segment? = [some .whole, some .first, some .middle, some .last]
    ∧ ∀ b : Byte, 4 ≤ b.toNat → segment? b = none)
  ∧ (([0, 1, 2, 3] : List Byte).map style? = [some .normal, some .wide, some .tall, some .inverse]
    ∧ ∀ b : Byte, 4 ≤ b.toNat → style? b = none)
  ∧ (∀ (style : Style) (codes : List Byte),
    let chars := codes.map fun c => CellBody.char c style
    let row (j : JobState) (seg : Segment) (cells : List CellBody) (room : Nat) (after : JobState) (out : Admission) : Prop :=
      admissionCells j seg style codes = cells ∧ cells.length = room ∧ admission j seg = (out, after)
    let n := codes.length
    row .none .whole (.jobStart :: chars ++ [.jobEnd]) (n + 2) .none .admitted
    ∧ row .none .first (.jobStart :: chars) (n + 1) .opened .admitted
    ∧ row .none .middle [] 0 .discarding .missingFirst
    ∧ row .none .last [] 0 .none .missingFirst
    ∧ row .opened .whole (.jobEnd :: .jobStart :: chars ++ [.jobEnd]) (n + 3) .none .missingLast
    ∧ row .opened .first (.jobEnd :: .jobStart :: chars) (n + 2) .opened .missingLast
    ∧ row .opened .middle chars n .opened .admitted
    ∧ row .opened .last (chars ++ [.jobEnd]) (n + 1) .none .admitted
    ∧ row .discarding .whole (.jobStart :: chars ++ [.jobEnd]) (n + 2) .none .admitted
    ∧ row .discarding .first (.jobStart :: chars) (n + 1) .opened .admitted
    ∧ row .discarding .middle [] 0 .discarding .quiet
    ∧ row .discarding .last [] 0 .none .quiet
    ∧ (n ≤ 64 → ∀ j seg, (admissionCells j seg style codes).length ≤ 67))
  ∧ (∀ (s : State) (p : JobPort) (seg : Segment) (style : Style) (codes : List Byte),
      (s.segmentFits p seg style codes = true ↔
        (admissionCells (s.arb.job p) seg style codes).length ≤ 96 - (s.arb.port p.toPort).cells.length)
      ∧ ((s.admitSegment p seg style codes).arb.port p.toPort).cells = (s.arb.port p.toPort).cells
          ++ (admissionCells (s.arb.job p) seg style codes).map (fun b => { body := b, entered := s.now })
      ∧ (s.admitSegment p seg style codes).arb.job p = (admission (s.arb.job p) seg).2
      ∧ (∀ q : PortId, q ≠ p.toPort → (s.admitSegment p seg style codes).arb.port q = s.arb.port q)
      ∧ ((admission (s.arb.job p) seg).1 = .missingFirst →
          namesCause (s.admitSegment p seg style codes).port.causes .jobError = true
          ∧ (s.crq.length < 64 → (s.admitSegment p seg style codes).crq = s.crq ++ [.notice (.jobEvent p .missingFirst)])
          ∧ (64 ≤ s.crq.length → (s.admitSegment p seg style codes).crq = s.crq
              ∧ namesCause (s.admitSegment p seg style codes).port.causes .noticeLost = true))
      ∧ ((admission (s.arb.job p) seg).1 = .missingLast →
          namesCause (s.admitSegment p seg style codes).port.causes .jobError = true
          ∧ (s.crq.length < 64 → (s.admitSegment p seg style codes).crq = s.crq ++ [.notice (.jobEvent p .missingLast)])
          ∧ (64 ≤ s.crq.length → (s.admitSegment p seg style codes).crq = s.crq
              ∧ namesCause (s.admitSegment p seg style codes).port.causes .noticeLost = true))
      ∧ ((admission (s.arb.job p) seg).1 = .admitted ∨ (admission (s.arb.job p) seg).1 = .quiet →
          (s.admitSegment p seg style codes).crq = s.crq ∧ (s.admitSegment p seg style codes).port = s.port))
  ∧ (∀ (x y : List Byte) (s : State) (seg : Segment) (style : Style),
      segment? (byteAt x 0) = some seg → style? (byteAt x 1) = some style → x.drop 2 = y → 2 ≤ x.length → y.length ≤ 64 →
      s.segmentFits .p2 seg style y = false → Completes (.print x) s ((s.wake .command).respond { result := .full }))
  ∧ ∀ (s : State) (r : Assembly), r.addressed s.line.settings.station = true → (s.engine.governs r).1 = .accept →
      r.routeUpper = false → r.kind = 2 → s.segmentFits .p3 r.segment (s.store.route r.route).style r.payload = false →
      s.decide r = s.answer r (.nak .busy 2)

/-- PRINT: BAD FIELD for a segment kind, a style or a length out of range, FULL where the segment's cells do not fit, else DONE with the segment admitted to P2. CANCEL JOB, PAUSE PRINT and RESUME PRINT; which job of a port is its oldest live one (the holding job unless it is closing, else the one whose JobStart is at the head), which cells are a job's (`jobSpan`, by the cell met: up to and with the JobEnd, else up to the next JobStart, else all); and what the cancel of the oldest live job removes, releases, sets and posts. That a cancel sets DISCARDING where neither the removed cells hold a JobEnd nor the rest a JobStart is log 15, the model's reading of a Last that is still to come. The segment and style codes are listed. -/
def Obligations.PrintCommandsAct : Prop :=
  (([0, 1, 2, 3] : List Byte).map segment? = [some .whole, some .first, some .middle, some .last]
    ∧ ∀ b : Byte, 4 ≤ b.toNat → segment? b = none)
  ∧ (([0, 1, 2, 3] : List Byte).map style? = [some .normal, some .wide, some .tall, some .inverse]
    ∧ ∀ b : Byte, 4 ≤ b.toNat → style? b = none)
  ∧ (∀ (p : List Byte) (s : State), 2 ≤ p.length → p.length ≤ 72 →
    let w := s.wake .command
    let codes := p.drop 2
    (4 ≤ (byteAt p 0).toNat ∨ 4 ≤ (byteAt p 1).toNat ∨ 64 < codes.length →
      Completes (.print p) s (w.respond { result := .badField }))
    ∧ (∀ segment style, segment? (byteAt p 0) = some segment → style? (byteAt p 1) = some style → codes.length ≤ 64 →
        (96 < s.arb.p2.cells.length + (admissionCells s.arb.job2 segment style codes).length →
          admissionCells s.arb.job2 segment style codes ≠ [] → Completes (.print p) s (w.respond { result := .full }))
        ∧ (s.arb.p2.cells.length + (admissionCells s.arb.job2 segment style codes).length ≤ 96
            ∨ admissionCells s.arb.job2 segment style codes = [] →
          Completes (.print p) s ((w.admitSegment .p2 segment style codes).respond { result := .done }))))
  ∧ (∀ (p : List Byte) (s : State), p.length ≤ 72 →
    let w := s.wake .command
    (1 ≤ p.length → (byteAt p 0).toNat ≠ 2 → (byteAt p 0).toNat ≠ 3 →
      Completes (.cancelJob p) s (w.respond { result := .badField }))
    ∧ (1 ≤ p.length → byteAt p 0 = 2 → Completes (.cancelJob p) s ((w.cancelJob .p2).respond { result := .done }))
    ∧ (1 ≤ p.length → byteAt p 0 = 3 → Completes (.cancelJob p) s ((w.cancelJob .p3).respond { result := .done }))
    ∧ Completes (.pausePrint p) s ((w.setArb { w.arb with pause := true }).respond { result := .done })
    ∧ Completes (.resumePrint p) s ((w.setArb { w.arb with pause := false }).respond { result := .done }))
  ∧ (jobSpan [] = ([], []))
  ∧ (∀ (c : PortCell) (rest : List PortCell),
      (c.body = .jobStart → jobSpan (c :: rest) = ([], c :: rest))
      ∧ (c.body = .jobEnd → jobSpan (c :: rest) = ([c], rest))
      ∧ (∀ code style, c.body = .char code style → jobSpan (c :: rest) = (c :: (jobSpan rest).1, (jobSpan rest).2)))
  ∧ (∀ (s : State) (p : JobPort), let cells := (s.arb.port p.toPort).cells
      let closing := ∃ l, s.comp.line = some l ∧ l.port = p.toPort ∧ l.jobEnd = true
      (s.arb.hold = some p → ¬ closing → s.oldestJob p = some ((jobSpan cells).1, (jobSpan cells).2, true))
      ∧ (s.arb.hold ≠ some p ∨ closing →
          (cells = [] → s.oldestJob p = none)
          ∧ ∀ c rest, cells = c :: rest →
            (c.body = .jobStart → s.oldestJob p = some (c :: (jobSpan rest).1, (jobSpan rest).2, false))
            ∧ (c.body ≠ .jobStart → s.oldestJob p = none)))
  ∧ ∀ (s : State) (p : JobPort),
    (s.oldestJob p = none → s.cancelJob p = s)
    ∧ (∀ gone rest holds, s.oldestJob p = some (gone, rest, holds) →
        let t := s.cancelJob p
        (s.arb.port p.toPort).cells = gone ++ rest
        ∧ (t.arb.port p.toPort).cells = rest
        ∧ (t.arb.port p.toPort).discarded = (s.arb.port p.toPort).discarded + gone.length
        ∧ (t.arb.port p.toPort).admitted = (s.arb.port p.toPort).admitted
        ∧ (t.arb.port p.toPort).composed = (s.arb.port p.toPort).composed
        ∧ (∀ q : PortId, q ≠ p.toPort → t.arb.port q = s.arb.port q)
        ∧ (holds = true → s.arb.hold = some p ∧ t.arb.hold = none ∧ t.arb.stall = none)
        ∧ (holds = false → t.arb.hold = s.arb.hold ∧ t.arb.stall = s.arb.stall)
        ∧ t.arb.job p = (if (∀ c ∈ rest, c.body ≠ .jobStart) ∧ (∀ c ∈ gone, c.body ≠ .jobEnd) then .discarding else s.arb.job p)
        ∧ (s.crq.length < 64 → t.crq = s.crq ++ [.notice (.jobEvent p .cancelled)] ∧ t.port = s.port)
        ∧ (64 ≤ s.crq.length → t.crq = s.crq ∧ t.port = (s.raise .noticeLost).port)
        ∧ t.comp = s.comp ∧ t.head = s.head ∧ t.arb.pause = s.arb.pause)

/-- CONFIG PRINT: BAD FIELD for Speed or CR Mode out of range, else every print setting rounded, clamped and written, then compared at once: the stall timer, L, and T with the OT Limit (their order is log 14, the model's choice). A stall timer that runs under the new settings and has already reached the new Job Stall Timeout stalls the holding job at that moment; one that has not runs on. The CR Mode codes are listed. The Head Drive follows the Thermal Hold (`HeadFollows`, Safety). -/
def Obligations.ConfigPrintWrites : Prop :=
  (crMode? 0 = some .ignore ∧ crMode? 1 = some .newLine ∧ ∀ b : Byte, 2 ≤ b.toNat → crMode? b = none)
  ∧ (∀ (n : Nat) (b : Byte) (x : Fin n), fin? n b = some x ↔ b.toNat = x.val)
  ∧ (∀ (p : List Byte) (s : State), 15 ≤ p.length → p.length ≤ 72 →
    let w := s.wake .command
    (4 ≤ (byteAt p 7).toNat ∨ 2 ≤ (byteAt p 14).toNat → Completes (.configPrint p) s (w.respond { result := .badField }))
    ∧ (∀ speed cr, fin? 4 (byteAt p 7) = some speed → crMode? (byteAt p 14) = some cr →
        let x : PrintSettings :=
          { arbiter := { prio0 := min 3 (byteAt p 0).toNat, prio1 := min 3 (byteAt p 1).toNat, prio2 := min 3 (byteAt p 2).toNat
                         prio3 := min 3 (byteAt p 3).toNat, partialMs := max 100 (min 3000 (wordAt p 4 / 100 * 100))
                         stallS := max 1 (min 30 (byteAt p 6).toNat) }
            composer := { crMode := cr, lineGap := min 12 (byteAt p 11).toNat, tear := min 255 (wordAt p 12) }
            speed := speed
            dotLimit := max 16 (min 384 (wordAt p 8 / 16 * 16))
            otLimit := max 50 (min 80 ((byteAt p 10).toNat / 5 * 5)) }
        Completes (.configPrint p) s ((w.configPrint x).respond { result := .done })))
  ∧ ∀ (s : State) (x : PrintSettings), let t := s.configPrint x
    t.arb.settings = x.arbiter ∧ t.comp.settings = x.composer ∧ t.head.speed = x.speed ∧ t.head.dotLimit = x.dotLimit
    ∧ t.mon.otLimit = x.otLimit ∧ t.head.limit = dotLimitOf x.dotLimit s.mon.supply s.mon.fallback
    ∧ (t.mon.thermalHold = true ↔ (s.mon.thermalHold = false ∧ (x.otLimit : Int) < s.mon.temp)
        ∨ (s.mon.thermalHold = true ∧ (x.otLimit : Int) - 8 < s.mon.temp))
    ∧ (s.mon.thermalHold = false → t.mon.thermalHold = true → namesCause t.port.causes .thermalHold = true)
    ∧ t.HeadFollows { s.head with speed := x.speed, dotLimit := x.dotLimit }
    ∧ t.line = s.line ∧ t.engine = s.engine ∧ t.tx = s.tx ∧ t.keys = s.keys ∧ t.store = s.store ∧ t.rtq = s.rtq
    ∧ t.comp.rows = s.comp.rows ∧ t.comp.line = s.comp.line
    ∧ (let u := (s.setArb { s.arb with settings := x.arbiter }).setComp { s.comp with settings := x.composer }
      (u.stallRuns = false → t.arb = { u.arb with stall := none } ∧ t.crq = s.crq)
      ∧ (u.stallRuns = true → s.arb.stall = none → 1 ≤ x.arbiter.stallS →
          t.arb = { u.arb with stall := some s.now } ∧ t.crq = s.crq)
      ∧ (u.stallRuns = true → ∀ start p, s.arb.stall = some start → s.arb.hold = some p →
          (s.now < start + 3000000 * x.arbiter.stallS → t.arb = u.arb ∧ t.crq = s.crq)
          ∧ (start + 3000000 * x.arbiter.stallS ≤ s.now → t.arb = (u.stallJob p).arb ∧ t.crq = (u.stallJob p).crq
              ∧ t.arb.hold = none ∧ t.arb.job p = .discarding ∧ namesCause t.port.causes .jobError = true)))

/-- PARTIAL LINE EXPIRY is the moment the head cell's age reaches the Partial Line Timeout, from which the port is eligible; JOB STALL EXPIRY removes the holding job's cells, releases the Hold, sets DISCARDING, posts "stalled" and raises Job Error. The stall timer runs exactly under R121's five conditions, a Job Hold, the Composer IDLE, Pause clear, no print hold in force, the holding port not eligible, with the Head Drive neither in HOLD nor in SETTLE (R154; that this is one condition more for R121's timer is log 31, the model's reading); it starts when they become true and is discarded when one ceases. The cells a stall removes are the job's (`jobSpan`, by the cell met). -/
def Obligations.ArbiterTimersExpire : Prop :=
  (∀ (q : PortId) (s : State) (c : PortCell) (rest : List PortCell), (s.arb.port q).cells = c :: rest →
    let u := s.reach (c.entered + 3000 * s.arb.settings.partialMs)
    Completes (.partialLineExpiry q) s u ∧ u.eligible q = true)
  ∧ (∀ (s : State) (p : JobPort) (start : Nat), s.arb.hold = some p → s.arb.stall = some start →
      Completes .jobStallExpiry s ((s.reach (start + 3000000 * s.arb.settings.stallS)).stallJob p))
  ∧ (∀ s : State,
      (s.stallRuns = true ↔ ∃ p : JobPort, s.arb.hold = some p ∧ s.comp.line = none ∧ s.arb.pause = false
        ∧ s.mon.anyHold = false ∧ s.eligible p.toPort = false ∧ s.head.state ≠ .hold ∧ s.head.state ≠ .settle)
      ∧ (s.stallRuns = true → s.arb.stall = none → s.watchStall = s.setArb { s.arb with stall := some s.now })
      ∧ (s.stallRuns = true → s.arb.stall ≠ none → s.watchStall = s)
      ∧ (s.stallRuns = false → s.watchStall = s.setArb { s.arb with stall := none }))
  ∧ (jobSpan [] = ([], []))
  ∧ (∀ (c : PortCell) (rest : List PortCell),
      (c.body = .jobStart → jobSpan (c :: rest) = ([], c :: rest))
      ∧ (c.body = .jobEnd → jobSpan (c :: rest) = ([c], rest))
      ∧ (∀ code style, c.body = .char code style → jobSpan (c :: rest) = (c :: (jobSpan rest).1, (jobSpan rest).2)))
  ∧ ∀ (s : State) (p : JobPort), let t := s.stallJob p
      t.arb.hold = none ∧ t.arb.stall = none ∧ t.arb.job p = .discarding
      ∧ (t.arb.port p.toPort).cells = (jobSpan (s.arb.port p.toPort).cells).2
      ∧ (t.arb.port p.toPort).discarded
          = (s.arb.port p.toPort).discarded + (jobSpan (s.arb.port p.toPort).cells).1.length
      ∧ (∀ q : PortId, q ≠ p.toPort → t.arb.port q = s.arb.port q)
      ∧ (s.crq.length < 64 → t.crq = s.crq ++ [.notice (.jobEvent p .stalled)]
          ∧ namesCause t.port.causes .noticeLost = namesCause s.port.causes .noticeLost)
      ∧ (64 ≤ s.crq.length → t.crq = s.crq ∧ namesCause t.port.causes .noticeLost = true)
      ∧ (∀ c : Cause, c ≠ .noticeLost → c ≠ .jobError → namesCause t.port.causes c = namesCause s.port.causes c)
      ∧ namesCause t.port.causes .jobError = true ∧ t.comp = s.comp ∧ t.head = s.head

/-- A grant needs the Composer IDLE and Pause clear; it goes to a port that is eligible, to the holding port alone while a port holds the Job Hold, to the highest priority, and among equals to the first in cyclic order after the last granted port. -/
def Obligations.GrantGoesToBestPort : Prop :=
  (∀ (s : State) (q : PortId), s.grantChoice = some q →
    s.comp.line = none ∧ s.arb.pause = false ∧ s.eligible q = true
    ∧ (∀ h, s.arb.hold = some h → h.toPort = q)
    ∧ (s.arb.hold = none → ∀ o : PortId, s.eligible o = true →
        s.arb.settings.priority o ≤ s.arb.settings.priority q
        ∧ (s.arb.settings.priority o = s.arb.settings.priority q →
            (portCode q + 3 - portCode s.arb.lastGranted) % 4 ≤ (portCode o + 3 - portCode s.arb.lastGranted) % 4)))
  ∧ (∀ s : State, s.grantChoice = none → s.comp.line = none → s.arb.pause = false →
      (∀ h, s.arb.hold = some h → s.eligible h.toPort = false)
      ∧ (s.arb.hold = none → ∀ o : PortId, s.eligible o = false))
  ∧ ∀ (s : State) (q : PortId) (line rest : List PortCell), s.textLine q = some (line, rest) →
      let t := s.grant q
      (t.arb.port q).cells = rest ∧ (t.arb.port q).composed = (s.arb.port q).composed + line.length
      ∧ (∀ o : PortId, o ≠ q → t.arb.port o = s.arb.port o) ∧ t.arb.lastGranted = q
      ∧ t.comp.line = some { port := q, entries := lineEntries s.store s.comp.settings line
                             jobEnd := holdsMark .jobEnd line }
      ∧ (holdsMark .jobStart line = false → t.arb.hold = s.arb.hold)
      ∧ (∀ p : JobPort, q = p.toPort → holdsMark .jobStart line = true → t.arb.hold = some p)

/-- What a line prints: the pattern of each printed code (R131; the fixed glyphs but for 20h are free, log 6); how the pen walks the line's cells and what it places (R134); the band height and every dot of a band row, each style drawn in its own way (R132, R135); the rows of a line are its band, the Line Gap and after an FF the Tear Distance, and its entries are these rows in order, a Dot Row for each black one and Feed Runs of 1 to 255 for the white ones (R136); a line of marks alone has no entry (R133); and the substitution box has its 44 black dots. -/
def Obligations.LineRowsAddUp : Prop :=
  (∀ (st : Store) (cfg : ComposerSettings) (line : List PortCell), (∀ c ∈ line, c.isMark = true) → lineEntries st cfg line = [])
  ∧ (∀ (st : Store) (cfg : ComposerSettings) (line : List PortCell), (∃ c ∈ line, c.isMark = false) →
      let band := placeLine st line
      let white := cfg.lineGap + (if endsWithFF line then cfg.tear else 0)
      let entries := lineEntries st cfg line
      ((entries.map RowEntry.rows).sum = bandHeight band + white)
      ∧ (entries.flatMap fun e => match e with
          | .dots row => [row]
          | .feed n => List.replicate n 0) = (List.range (bandHeight band)).map (bandRow band) ++ List.replicate white 0
      ∧ (∀ e ∈ entries, match e with
          | .dots row => row ≠ 0
          | .feed n => 1 ≤ n ∧ n ≤ 255)
      ∧ (∀ before n m behind, entries = before ++ .feed n :: .feed m :: behind → n = 255))
  ∧ (∀ line : List PortCell, endsWithFF line = true ↔ ∃ before c style, line = before ++ [c] ∧ c.body = .char 0x0C style)
  ∧ (∀ (st : Store) (code : Byte),
      (code = 0x20 → patternOf st code = 0)
      ∧ (0x21 ≤ code.toNat ∧ code.toNat ≤ 0x7E ∨ 0xC0 ≤ code.toNat → patternOf st code = Config.fixedGlyph code)
      ∧ (0x7F ≤ code.toNat → code.toNat ≤ 0x9F → patternOf st code = substitutionBox)
      ∧ (∀ n : Fin 32, code.toNat = 0xA0 + n.val →
          patternOf st code = if st.glyphs[n].valid then st.glyphs[n].pattern else substitutionBox))
  ∧ (∀ (st : Store) (line : List PortCell), placeLine st line = (line.foldl (placeCell st) (0, [])).2)
  ∧ (∀ (st : Store) (pen : Nat) (placed : List Placed) (c : PortCell),
      let after := placeCell st (pen, placed) c
      let width (x : Style) : Nat := if x = .wide then 24 else 12
      let tab := pen / 96 * 96 + 96
      (c.isMark = true → after = (pen, placed))
      ∧ ∀ code style, c.body = .char code style →
        (0x20 ≤ code.toNat →
          after = (pen + width style, { left := pen, style := style, pattern := patternOf st code } :: placed))
        ∧ (code = 0x08 → (placed = [] → after = (pen, []))
          ∧ ∀ last before, placed = last :: before → after = (pen - width last.style, before))
        ∧ (code = 0x09 → (384 < tab → after = (pen, placed)) ∧ (tab ≤ 384 → after = (tab, placed)))
        ∧ (code.toNat < 0x20 → code ≠ 0x08 → code ≠ 0x09 → after = (pen, placed)))
  ∧ (∀ placed : List Placed, bandHeight placed = if ∃ c ∈ placed, c.style = .tall then 32 else 16)
  ∧ (∀ (placed : List Placed) (b x : Nat), b < bandHeight placed → x < 384 →
      let base := bandHeight placed - 16
      ((bandRow placed b).getLsbD x = true ↔ ∃ c ∈ placed, c.left ≤ x ∧ x < c.left + (if c.style = .wide then 24 else 12)
        ∧ match c.style with
          | .tall => Pattern.dot c.pattern (x - c.left) (b / 2) = true
          | .normal => base ≤ b ∧ Pattern.dot c.pattern (x - c.left) (b - base) = true
          | .wide => base ≤ b ∧ Pattern.dot c.pattern ((x - c.left) / 2) (b - base) = true
          | .inverse => base ≤ b ∧ Pattern.dot c.pattern (x - c.left) (b - base) = false))
  ∧ (∀ c : Fin 12, ∀ r : Fin 16, Pattern.dot substitutionBox c.val r.val = true ↔
      ((r.val = 1 ∨ r.val = 14) ∧ 1 ≤ c.val ∧ c.val ≤ 10) ∨ ((c.val = 1 ∨ c.val = 10) ∧ 2 ≤ r.val ∧ r.val ≤ 13))

/-! ## The Head Drive -/

/-- PHASE END, ROW PERIOD END and SETTLE EXPIRY: the next phase fires, or the row advances, or it ends; what the end of a row leaves as history; and the state after it: HOLD under a hold, the next row where there is work, else IDLE. The start of a row (R142, R147, R151, R152): the row of a Feed Run in hand or the head entry of the Row Queue, with one paper step; a Feed Run's row is ADVANCING for the Minimum Row Period, a dot row is FIRING for its phases, each its longest strobe and 20 µs, and lasts their sum or the Minimum Row Period. What a row's end leaves after a print reset (`clearAtEnd`) is R157 of section 9.8, by the mark of log 27, the model's reading; that a row composed since then starts at that end without IDLE between is log 36, the model's choice; ROW PERIOD END in FIRING, and the end of a row at its last phase, are log 30, the model's reading. -/
def Obligations.HeadDriveMoves : Prop :=
  (∀ (s : State) (r : RowRun), s.head.row = some r → s.head.state = .firing →
    let u := s.reach r.phaseEnd
    (∀ done next rest, r.phases = done :: next :: rest → Completes .phaseEnd s (u.setHead { s.head with
        row := some { r with phases := next :: rest, phaseEnd := r.phaseEnd + 3 * next.duration } }))
    ∧ (r.phases.length ≤ 1 → r.periodEnd ≤ r.phaseEnd → Completes .phaseEnd s u.endRow)
    ∧ (r.phases.length ≤ 1 → r.phaseEnd < r.periodEnd → Completes .phaseEnd s (u.setHead { s.head with
        row := some { r with phases := [] }, state := .advancing })))
  ∧ (∀ (s : State) (r : RowRun), s.head.row = some r → s.head.state = .firing ∨ s.head.state = .advancing →
      Completes .rowPeriodEnd s (s.reach r.periodEnd).endRow)
  ∧ (∀ (s : State) (start : Nat), s.head.state = .settle → s.head.settle = some start →
      Completes .settleExpiry s (((s.reach (start + 1500000)).setHead { s.head with settle := none }).nextRow))
  ∧ (∀ s : State, let h := s.head.rowEnded s.now
      (s.endRow = (s.setHead h).nextRow) ∧ h.row = none
      ∧ (s.head.clearAtEnd = false → ∀ row, s.head.inHand = .dots row →
          h.history = row ∧ h.idleSince = some s.now ∧ h.inHand = .none)
      ∧ (s.head.clearAtEnd = false → ∀ n, s.head.inHand = .feed n →
          h.history = 0 ∧ h.inHand = if n ≤ 1 then .none else .feed (n - 1))
      ∧ (s.head.clearAtEnd = true → h.history = 0 ∧ h.idleSince = none ∧ h.inHand = .none))
  ∧ (∀ s : State, (s.mon.anyHold = true → s.nextRow = s.moveHead .hold)
      ∧ (s.mon.anyHold = false → s.headWork = true → s.nextRow = s.startRow)
      ∧ (s.mon.anyHold = false → s.headWork = false → s.nextRow = s.moveHead .idle)
      ∧ (s.headWork = true ↔ (∃ n, s.head.inHand = .feed n ∧ 0 < n) ∨ s.comp.rows ≠ []))
  ∧ (∀ s : State,
      (∀ n, s.head.inHand = .feed n → 0 < n → s.startRow = s.startFeedRow n)
      ∧ ((∀ n, s.head.inHand = .feed n → n = 0) →
          (∀ n rest, s.comp.rows = .feed n :: rest → s.startRow = (s.setComp { s.comp with rows := rest }).startFeedRow n)
          ∧ (∀ row rest, s.comp.rows = .dots row :: rest → s.startRow = (s.setComp { s.comp with rows := rest }).startDotRow row)))
  ∧ (∀ s : State, let least := [2500, 3750, 5000, 7500].getD s.head.speed.val 0
      (∀ n, (s.startFeedRow n).head = { s.head with
          state := .advancing, inHand := .feed n, steps := s.head.steps + 1
          row := some { phases := [], phaseEnd := s.now, periodEnd := s.now + 3 * least } })
      ∧ ∀ row : DotRow,
          let phases := rowPhases s.store s.mon.temp s.mon.fallback s.mon.supply s.head.limit row s.rowHistory
          let lasts := max (phases.map Phase.duration).sum least
          (∀ first rest, phases = first :: rest → (s.startDotRow row).head = { s.head with
            state := .firing, inHand := .dots row, steps := s.head.steps + 1, history := s.rowHistory, idleSince := none
            row := some { phases := phases, phaseEnd := s.now + 3 * first.duration, periodEnd := s.now + 3 * lasts } }))
  ∧ (∀ fs : List GroupFire, fs ≠ [] → (∃ f ∈ fs, (mkPhase fs).duration = f.strobe + 20)
      ∧ (∀ f ∈ fs, f.strobe + 20 ≤ (mkPhase fs).duration))
  ∧ ∀ s : State, (s.head.idleSince = none → s.rowHistory = s.head.history)
      ∧ ∀ start, s.head.idleSince = some start →
          (start + 300000 < s.now → s.rowHistory = 0) ∧ (s.now ≤ start + 300000 → s.rowHistory = s.head.history)

/-- R143 to R146: the temperature width of the eight curve points, the darkness width or the fallback width, the voltage width, and the cold and hot widths of a group, each between 150 and 2000 µs. And the use of the widths (R147, R148): a group fires exactly when it has a black dot, for the cold width when one of them is white in the history, else for the hot width; a cold dot is on for the cold width, a hot one for the hot width, a white one never, each from the start of its phase. The history against which a dot is hot or cold (R147): white after an idle time of more than 100 ms, the dots of the last Dot Row, white after a white row and at power-on, and unchanged by what else the part does. -/
def Obligations.StrobeWidthsAreComputed : Prop :=
  (∀ (st : Store) (t : Int),
    (t < -10 → temperatureWidth st t = st.curve 0)
    ∧ (60 ≤ t → temperatureWidth st t = st.curve 7)
    ∧ (∀ i d : Nat, i < 7 → d < 10 → t = 10 * (i : Int) - 10 + d →
        temperatureWidth st t = (st.curve i * (10 - d) + st.curve (i + 1) * d) / 10)
    ∧ (∀ i : Nat, i < 8 → t = 10 * (i : Int) - 10 → temperatureWidth st t = st.curve i))
  ∧ (∀ (st : Store) (t : Int), darknessWidth st t false = temperatureWidth st t * (12 + st.darkness) / 16)
  ∧ (∀ (st : Store) (t : Int) (d : Fin 8), st.darkness = d.val →
      darknessWidth st t true = [600, 680, 760, 840, 920, 1000, 1080, 1160].getD d.val 0)
  ∧ (∀ wd v : Nat,
      (v ≤ 560 → voltageWidth wd v = wd * 518400 / (560 * 560))
      ∧ (560 ≤ v → v ≤ 860 → voltageWidth wd v = wd * 518400 / (v * v))
      ∧ (860 ≤ v → voltageWidth wd v = wd * 518400 / (860 * 860))
      ∧ (v = 720 → voltageWidth wd v = wd))
  ∧ (∀ (st : Store) (wv : Nat) (g : Fin 6),
      let raw := wv * (64 - st.calibration g) / 64
      coldWidth st wv g = max 150 (min 2000 raw)
      ∧ hotWidth st wv g = max 150 (min 2000 (raw * (64 - st.historyCoefficient) / 64))
      ∧ hotWidth st wv g ≤ coldWidth st wv g
      ∧ 150 ≤ hotWidth st wv g ∧ coldWidth st wv g ≤ 2000)
  ∧ (∀ (st : Store) (wv : Nat) (row history : DotRow) (g : Fin 6),
      let black (i : Fin 64) : Prop := row.getLsbD (64 * g.val + i.val) = true
      let cold (i : Fin 64) : Prop := black i ∧ history.getLsbD (64 * g.val + i.val) = false
      let f := groupFire st wv row history g
      f.group = g
      ∧ (∀ x ∈ firingGroups st wv row history, x = groupFire st wv row history x.group)
      ∧ (f ∈ firingGroups st wv row history ↔ ∃ i, black i)
      ∧ f.black = ((List.finRange 64).filter fun i => row.getLsbD (64 * g.val + i.val)).length
      ∧ ((∃ i, cold i) → f.strobe = coldWidth st wv g)
      ∧ ((∀ i, ¬ cold i) → f.strobe = hotWidth st wv g)
      ∧ ∀ i : Fin 64, (cold i → f.onTime i = coldWidth st wv g) ∧ (black i → ¬ cold i → f.onTime i = hotWidth st wv g)
          ∧ (¬ black i → f.onTime i = 0))
  ∧ (∀ (s : State) (dot : Fin 384),
      (s.head.state ≠ .firing → s.dotOn dot = false)
      ∧ ∀ r ph rest, s.head.state = .firing → s.head.row = some r → r.phases = ph :: rest → 3 * ph.duration ≤ r.phaseEnd →
          (s.dotOn dot = true ↔ ∃ f ∈ ph.groups, ∃ i : Fin 64, dot.val = 64 * f.group.val + i.val
            ∧ s.now < r.phaseEnd - 3 * ph.duration + 3 * f.onTime i))
  ∧ (∀ s : State, (s.head.idleSince = none → s.rowHistory = s.head.history)
      ∧ (∀ start, s.head.idleSince = some start →
          (start + 300000 < s.now → s.rowHistory = 0) ∧ (s.now ≤ start + 300000 → s.rowHistory = s.head.history))
      ∧ (∀ row : DotRow, (s.startDotRow row).head.history = s.rowHistory)
      ∧ (s.head.clearAtEnd = false → ∀ row, s.head.inHand = .dots row →
          (s.head.rowEnded s.now).history = row ∧ (s.head.rowEnded s.now).idleSince = some s.now)
      ∧ (∀ n, s.head.inHand = .feed n → (s.head.rowEnded s.now).history = 0))
  ∧ (∀ (paper lid : Bool) (v : BitVec 16) (r : Int) (s : State), ∃ t, exec (.powerOn paper lid v r) s = .next t
      ∧ t.head.history = 0 ∧ t.head.idleSince = none)
  ∧ (∀ s : State, let same (t : State) : Prop := t.head.history = s.head.history ∧ t.head.idleSince = s.head.idleSince
      same s.syncHolds ∧ (∀ x, same (s.moveHead x)) ∧ same (s.perform .append) ∧ same s.finishLine ∧ (∀ q, same (s.grant q))
      ∧ (∀ w : StoreWrite, same (s.setStore (s.store.write w))) ∧ same s.sampleSupply ∧ same s.readThermistor)
  ∧ ∀ (s : State) (row : DotRow), ∀ run, (s.startDotRow row).head.row = some run →
      run.phases = (packGroups s.head.limit [] (firingGroups s.store
        (voltageWidth (darknessWidth s.store s.mon.temp s.mon.fallback) s.mon.supply) row s.rowHistory)).map mkPhase
      ∧ ∀ ph ∈ run.phases, ∀ f ∈ ph.groups, 150 ≤ f.strobe ∧ f.strobe ≤ 2000

/-- R149: the effective dot limit: the Dot Limit, halved while V is below 620 but not below 16, capped at 64 in Sensor Fallback; recomputed at each new V, at each entry to and exit from Sensor Fallback, and at each CONFIG PRINT; and read by a row at its start. -/
def Obligations.EffectiveDotLimit : Prop :=
  (∀ (setting v : Nat),
    (620 ≤ v → dotLimitOf setting v false = setting)
    ∧ (v < 620 → dotLimitOf setting v false = max 16 (setting / 2))
    ∧ dotLimitOf setting v true = min 64 (dotLimitOf setting v false))
  ∧ [16, 96, 192, 384].map (fun d => [dotLimitOf d 620 false, dotLimitOf d 619 false, dotLimitOf d 620 true, dotLimitOf d 619 true])
      = [[16, 16, 16, 16], [96, 48, 64, 48], [192, 96, 64, 64], [384, 192, 64, 64]]
  ∧ (∀ s : State, s.sampleSupply.head.limit = dotLimitOf s.head.dotLimit s.sampleSupply.mon.supply s.mon.fallback)
  ∧ (∀ s : State, s.readThermistor.mon.fallback ≠ s.mon.fallback →
      s.readThermistor.head.limit = dotLimitOf s.head.dotLimit s.mon.supply s.readThermistor.mon.fallback)
  ∧ (∀ (s : State) (x : PrintSettings), (s.configPrint x).head.limit = dotLimitOf x.dotLimit s.mon.supply s.mon.fallback)
  ∧ ∀ (s : State) (row : DotRow), ∃ run, (s.startDotRow row).head.row = some run
      ∧ run.phases = rowPhases s.store s.mon.temp s.mon.fallback s.mon.supply s.head.limit row s.rowHistory

/-- R150: the phases hold the groups in their order, none split; a phase's black dots come to L or fewer, or it is one group alone; a group opens a new phase only where it does not fit the one before; a row has at most six phases. -/
def Obligations.PhasesKeepDotLimit : Prop :=
  ∀ (limit : Nat) (fs : List GroupFire), let ps := packGroups limit [] fs
    ps.flatten = fs ∧ (∀ p ∈ ps, p ≠ [])
    ∧ (∀ p ∈ ps, blackOf p ≤ limit ∨ p.length = 1)
    ∧ (∀ before p f q behind, ps = before ++ p :: (f :: q) :: behind → limit < blackOf p + f.black)
    ∧ ps.length ≤ fs.length
    ∧ ∀ (st : Store) (wv : Nat) (row history : DotRow), (firingGroups st wv row history).length ≤ 6
        ∧ (∀ f ∈ firingGroups st wv row history, 0 < f.black)
        ∧ ((firingGroups st wv row history).map GroupFire.group).Pairwise (· < ·)

/-! ## The Monitor -/

/-- Sensor inputs: a level that differs from the sensed state starts the stability timer, one that returns discards it; after 20 ms the sensed state takes the level, and the Paper Hold follows with its cause. The Head Drive follows the holds (`HeadFollows`, Safety). -/
def Obligations.SensorInputsAreSensed : Prop :=
  (∀ (s : State) (i : Sensor) (level : Bool),
    let a := s.setPins (s.pins.setLevel i level)
    (level = (s.mon.sensed i).value → Completes (.sensorInputChange i level) s
      (a.setMon (s.mon.setSensed i { value := (s.mon.sensed i).value, stable := none })))
    ∧ (level ≠ (s.mon.sensed i).value → (s.mon.sensed i).stable = none → Completes (.sensorInputChange i level) s
      (a.setMon (s.mon.setSensed i { value := (s.mon.sensed i).value, stable := some s.now })))
    ∧ (level ≠ (s.mon.sensed i).value → (s.mon.sensed i).stable ≠ none → Completes (.sensorInputChange i level) s a))
  ∧ (∀ (s : State) (i : Sensor) (start : Nat), (s.mon.sensed i).stable = some start →
      Completes (.sensorStableExpiry i) s ((s.reach (start + 60000)).inputStable i))
  ∧ (∀ (s : State) (i : Sensor), let t := s.inputStable i
      t.mon = s.mon.setSensed i { value := s.pins.level i, stable := none } ∨ s.head.state = .idle ∧ t.head.state = .hold)
  ∧ (∀ (s : State) (i : Sensor), let t := s.inputStable i
      t.mon.sensed i = { value := s.pins.level i, stable := none }
      ∧ (t.mon.paperHold = true ↔ t.mon.paper.value = false ∨ t.mon.lid.value = false)
      ∧ (s.mon.paperHold = false → t.mon.paperHold = true → namesCause t.port.causes .paperHold = true)
      ∧ (s.mon.paperHold = t.mon.paperHold ∨ t.mon.paperHold = false → t.port = s.port)
      ∧ (t.mon.anyHold = true → s.head.state = .idle ∨ s.head.state = .settle → t.head.state = .hold)
      ∧ (t.mon.anyHold = false → s.head.state = .hold → t.head.state = .settle ∧ t.head.settle = some s.now)
      ∧ (s.head.state = .firing ∨ s.head.state = .advancing → t.head = s.head)
      ∧ t.HeadFollows s.head ∧ t.head.limit = s.head.limit)

/-- R160: a sample gives a new V; the Supply Hold is raised by a V below 560 and cleared by one of 590 or above, with its cause at the raising; between them it stays. R159, the moment of the next sample: 2 ms after the last while the Head Drive works, 100 ms in IDLE in Run, 1 s in IDLE in Doze; at once where the Head Drive has left IDLE and no sample has been taken at that moment (log 18, the model's choice: the row that leaves IDLE starts first, unless the sample came before it at that moment). The Head Drive follows the holds (`HeadFollows`, Safety: R153, R154). -/
def Obligations.SupplyHoldFollowsV : Prop :=
  (∀ (v : BitVec 16) (s : State), Completes (.supplySample v) s
    (((s.reach s.supplyDue).setPins { s.pins with supply := v }).sampleSupply))
  ∧ (∀ s : State,
      (s.mon.supplyOwed = true → s.supplyDue = s.now)
      ∧ (s.mon.supplyOwed = false →
          (s.head.state ≠ .idle → s.supplyDue = s.mon.lastSupply + 6000)
          ∧ (s.head.state = .idle → s.mon.power = .run → s.supplyDue = s.mon.lastSupply + 300000)
          ∧ (s.head.state = .idle → s.mon.power = .doze → s.supplyDue = s.mon.lastSupply + 3000000)))
  ∧ (∀ (s : State) (x : HeadState),
      (s.head.state = .idle → x ≠ .idle → s.mon.lastSupply ≠ s.now → (s.moveHead x).mon.supplyOwed = true)
      ∧ (s.head.state ≠ .idle ∨ x = .idle ∨ s.mon.lastSupply = s.now → (s.moveHead x).mon.supplyOwed = s.mon.supplyOwed))
  ∧ ∀ s : State, let t := s.sampleSupply
    t.mon.supplyOwed = false ∧ t.mon.samples = { a := s.mon.samples.b, b := s.mon.samples.c, c := s.mon.samples.d, d := s.pins.supply.toNat }
    ∧ t.mon.supply = (s.mon.samples.b + s.mon.samples.c + s.mon.samples.d + s.pins.supply.toNat) / 4
    ∧ t.mon.lastSupply = s.now
    ∧ (s.mon.supplyHold = false → (t.mon.supplyHold = true ↔ t.mon.supply < 560))
    ∧ (s.mon.supplyHold = true → (t.mon.supplyHold = false ↔ 590 ≤ t.mon.supply))
    ∧ (s.mon.supplyHold = false → t.mon.supplyHold = true → namesCause t.port.causes .supplyHold = true)
    ∧ (s.mon.supplyHold = t.mon.supplyHold → t.port = s.port)
    ∧ t.mon.temp = s.mon.temp ∧ t.mon.thermalHold = s.mon.thermalHold ∧ t.mon.paper = s.mon.paper ∧ t.mon.lid = s.mon.lid
    ∧ t.HeadFollows s.head

/-- A thermistor reading, where readings are taken: a valid one becomes T, ends Sensor Fallback and is compared with the OT Limit; an invalid one leaves T and the Thermal Hold and enters Sensor Fallback with its cause. R161, the moment of the next reading: 50 ms after the last; at once where the Head Drive has left IDLE in Doze and no reading has been taken at that moment (log 18, the model's choice of the order). The Head Drive follows the holds after a valid reading (`HeadFollows`, Safety: R153, R154); an invalid one moves nothing but L. -/
def Obligations.ThermistorIsRead : Prop :=
  (∀ (r : Int) (s : State),
    (s.mon.power = .run ∨ s.head.state ≠ .idle → Completes (.thermistorReading r) s
      (((s.reach s.thermDue).setPins { s.pins with therm := r }).readThermistor))
    ∧ (s.mon.power = .doze → s.head.state = .idle → exec (.thermistorReading r) s = .next s))
  ∧ (∀ s : State, (s.mon.thermOwed = true → s.thermDue = s.now)
      ∧ (s.mon.thermOwed = false → s.thermDue = s.mon.lastTherm + 150000))
  ∧ (∀ (s : State) (x : HeadState),
      (s.head.state = .idle → x ≠ .idle → s.mon.power = .doze → s.mon.lastTherm ≠ s.now → (s.moveHead x).mon.thermOwed = true)
      ∧ (s.head.state ≠ .idle ∨ x = .idle ∨ s.mon.power = .run ∨ s.mon.lastTherm = s.now →
          (s.moveHead x).mon.thermOwed = s.mon.thermOwed))
  ∧ ∀ s : State, let t := s.readThermistor
    t.mon.lastTherm = s.now ∧ t.mon.thermOwed = false
    ∧ (-30 ≤ s.pins.therm → s.pins.therm ≤ 100 → t.mon.temp = s.pins.therm ∧ t.mon.fallback = false
        ∧ (s.mon.thermalHold = false → (t.mon.thermalHold = true ↔ (s.mon.otLimit : Int) < s.pins.therm))
        ∧ (s.mon.thermalHold = true → (t.mon.thermalHold = false ↔ s.pins.therm ≤ (s.mon.otLimit : Int) - 8))
        ∧ (s.mon.thermalHold = false → t.mon.thermalHold = true → namesCause t.port.causes .thermalHold = true)
        ∧ t.HeadFollows s.head)
    ∧ (s.pins.therm < -30 ∨ 100 < s.pins.therm → t.mon.temp = s.mon.temp ∧ t.mon.fallback = true
        ∧ t.mon.thermalHold = s.mon.thermalHold ∧ t.head = { s.head with limit := t.head.limit }
        ∧ (s.mon.fallback = false → namesCause t.port.causes .sensorFallback = true)
        ∧ (s.mon.fallback = true → t.port = s.port ∧ t.head = s.head))

/-! ## Invariants -/

/-- The invariants below hold after power-on; State.reset is a power-on with the readings of log 8 (the model's choice). -/
def Obligations.ResetStateIsSound : Prop :=
  State.reset.Sound ∧ State.reset.LineOk ∧ exec (.powerOn true true 720 25) State.reset = .next State.reset

/-- No step lets a queue or list exceed its capacity, loses a cell of a port from its account, or lets the soft-key strings exceed their pool. -/
def Obligations.StepKeepsCapacities : Prop := ∀ s t : State, s.Sound → step s = .next t → t.Sound

/-- Every step keeps line state, direction state, flow state, reception and transmission in agreement. -/
def Obligations.StepKeepsLineStates : Prop := ∀ s t : State, s.LineOk → step s = .next t → t.LineOk

/-- No step starts a dot row or a row of a Feed Run while a Paper, Supply or Thermal Hold is in force after it. -/
def Obligations.NoRowStartsUnderHold : Prop :=
  ∀ s t : State, step s = .next t → s.head.steps < t.head.steps → t.mon.anyHold = false

end Statements
end

