-- ==== Sys2Proof/Laws/Causes.lean ====
section
/-!
SUPPORT. What raising a cause and posting a notice can do to the causes and the CRQ, said once (R104, section 11.6).
-/

namespace Sys2Proof.Machine

theorem Cause.bit_lt (c : Cause) : c.bit < 10 := by cases c <;> decide

theorem Cause.bit_inj {c d : Cause} (h : c.bit = d.bit) : c = d := by
  cases c <;> cases d <;> first | rfl | (simp [Cause.bit] at h)

theorem Cause.mask_getLsbD (c : Cause) (i : Nat) : c.mask.getLsbD i = decide (i = c.bit) := by
  have := c.bit_lt
  simp only [Cause.mask, BitVec.getLsbD_shiftLeft, BitVec.getLsbD_one]
  by_cases h : i = c.bit
  · subst h; simp [this]
  · simp only [h, decide_false]
    by_cases hi : i < c.bit
    · simp [hi]
    · have : i - c.bit ≠ 0 := by omega
      simp [this]

/-- A set names a cause exactly where the cause's bit is set. -/
theorem namesCause_eq_getLsbD (x : BitVec 10) (c : Cause) : namesCause x c = x.getLsbD c.bit := by
  unfold namesCause
  by_cases h : x.getLsbD c.bit = true
  · rw [h, bne_iff_ne]
    intro h0
    have := congrArg (fun y => y.getLsbD c.bit) h0
    simp [Cause.mask_getLsbD, h] at this
  · rw [Bool.not_eq_true] at h
    have h0 : x &&& c.mask = 0 := by
      apply BitVec.eq_of_getLsbD_eq
      intro i _
      by_cases hb : i = c.bit <;> simp [Cause.mask_getLsbD, hb, h]
    simp [h0, h]

/-- The causes after one was raised. -/
theorem namesCause_raise (s : State) (c d : Cause) :
    namesCause (s.raise c).port.causes d = (namesCause s.port.causes d || decide (d = c)) := by
  have : decide (d.bit = c.bit) = decide (d = c) := by
    by_cases h : d = c
    · simp [h]
    · have hb : ¬ d.bit = c.bit := fun e => h (Cause.bit_inj e)
      simp [h, hb]
  simp [namesCause_eq_getLsbD, State.raise, State.setPort, Cause.mask_getLsbD, this]

/-- With room in the CRQ a notice is appended, and that is all. -/
theorem post_of_room {s : State} (h : s.crq.length < 64) (n : Notice) : s.post n = s.setCrq (s.crq ++ [.notice n]) := by
  have : s.crqRoom ≠ 0 := by simp only [State.crqRoom, Config.crqCap]; omega
  simp [State.post, this, State.pushCrq]

/-- At a full CRQ a notice is dropped and Notice Lost raised, and that is all. -/
theorem post_of_full {s : State} (h : 64 ≤ s.crq.length) (n : Notice) : s.post n = s.raise .noticeLost := by
  have : s.crqRoom = 0 := by simp only [State.crqRoom, Config.crqCap]; omega
  simp [State.post, this]

end Sys2Proof.Machine
end

