-- ==== Sys2Proof/Laws/Energy.lean ====
section
/-!
SUPPORT. What the strobe of a group can do: its widths and the on times of its dots, said once; when the stall timer may run; what a comparison of the holds does to the Head Drive.
-/

namespace Sys2Proof.Machine

theorem clamp_mem {lo hi : Nat} (h : lo ≤ hi) (n : Nat) : lo ≤ clamp lo hi n ∧ clamp lo hi n ≤ hi := by
  unfold clamp; omega

theorem hotWidth_le_coldWidth (st : Store) (wv : Nat) (g : Fin 6) : hotWidth st wv g ≤ coldWidth st wv g := by
  have h : coldRaw st wv g * (64 - st.historyCoefficient) / 64 ≤ coldRaw st wv g :=
    Nat.div_le_of_le_mul (by rw [Nat.mul_comm]; exact Nat.mul_le_mul_right _ (Nat.sub_le _ _))
  unfold hotWidth coldWidth clamp; omega

/-- R148: a group's strobe is its cold width where one of its black dots is cold, else its hot width. -/
theorem groupFire_strobe (st : Store) (wv : Nat) (row history : DotRow) (g : Fin 6) :
    (groupFire st wv row history g).strobe = if coldDots row history g = 0 then hotWidth st wv g else coldWidth st wv g := by
  by_cases h : coldDots row history g = 0 <;> simp [groupFire, h]

/-- R148: no dot is on after its group's strobe time. -/
theorem groupFire_onTime_le_strobe (st : Store) (wv : Nat) (row history : DotRow) (g : Fin 6) (i : Fin 64) :
    (groupFire st wv row history g).onTime i ≤ (groupFire st wv row history g).strobe := by
  rw [groupFire_strobe]
  have hle := hotWidth_le_coldWidth st wv g
  change (if (coldDots row history g).getLsbD i then coldWidth st wv g
    else if (groupDots row g).getLsbD i then hotWidth st wv g else 0) ≤ _
  by_cases h0 : coldDots row history g = 0
  · rw [if_pos h0, h0]
    simp only [BitVec.ofNat_eq_ofNat, BitVec.getLsbD_zero, Bool.false_eq_true, if_false]
    split <;> omega
  · rw [if_neg h0]
    split
    · exact Nat.le_refl _
    · split <;> omega

/-- R121, R154: the stall timer never runs in HOLD or in SETTLE. -/
theorem stallRuns_eq_false_of_stopped {s : State} (h : s.head.state.stopped = true) : s.stallRuns = false := by
  unfold State.stallRuns; split <;> simp [h]

/-- R121: after the watch the stall timer holds a start moment exactly where it runs. -/
theorem watchStall_isSome (s : State) : s.watchStall.arb.stall.isSome = s.stallRuns := by
  unfold State.watchStall; split
  · next h => split <;> simp_all [State.setArb]
  · next h => split <;> simp_all [State.setArb]

/-! ## The Head Drive under holds -/

/-- R153, R154: what a comparison of the holds does to the Head Drive. -/
theorem syncHolds_headFollows (s : State) : s.syncHolds.HeadFollows s.head := by
  have hold : s.syncHolds.mon.anyHold = s.mon.anyHold := by unfold State.syncHolds; split <;> split <;> rfl
  have stay (h : s.syncHolds = s) : s.syncHolds.head = { s.head with limit := s.syncHolds.head.limit } := by rw [h]
  refine ⟨fun a b => ?_, fun a b => ?_, fun a b => stay ?_, fun a b => ?_, fun a b => stay ?_, fun a => stay ?_⟩ <;>
    try rw [hold] at a
  · have : s.syncHolds = s.moveHead .hold := by simp only [State.syncHolds, a, b, if_true]
    rw [this]; rfl
  · have : s.syncHolds = (s.setHead { s.head with settle := none }).moveHead .hold := by
      simp only [State.syncHolds, a, b, if_true]
    rw [this]; rfl
  · simp only [State.syncHolds, a, b, if_true]
  · have : s.syncHolds = (s.setHead { s.head with settle := some s.now }).moveHead .settle := by
      simp only [State.syncHolds, a, b, Bool.false_eq_true, if_false]
    rw [this]; rfl
  · rcases b with b | b <;> simp only [State.syncHolds, a, b, Bool.false_eq_true, if_false]
  · rcases a with a | a <;> simp only [State.syncHolds, a, ite_self]

/-- L may be recomputed after it (R149). -/
theorem State.HeadFollows.recomputeLimit {t : State} {h : Head} (k : t.HeadFollows h) : t.recomputeLimit.HeadFollows h := by
  have L (x : Head) (e : t.head = { x with limit := t.head.limit }) :
      t.recomputeLimit.head = { x with limit := t.recomputeLimit.head.limit } :=
    congrArg (fun y : Head => { y with limit := t.recomputeLimit.head.limit }) e
  exact ⟨fun a b => L { h with state := .hold } (k.fromIdle a b), fun a b => L { h with state := .hold, settle := none } (k.fromSettle a b), fun a b => L _ (k.stays a b),
    fun a b => L { h with state := .settle, settle := some t.now } (k.clears a b), fun a b => L _ (k.free a b), fun a => L _ (k.runsOn a)⟩

end Sys2Proof.Machine
end

