-- ==== Sys2Proof/Laws/Idle.lean ====
section
/-!
SUPPORT. What the idle step takes: which timers are ready, and when the record's gap timer expires of itself.
-/

namespace Sys2Proof.Laws
open Sys2Proof.Machine

/-- Every own timer is listed. -/
theorem mem_allTimers (t : Timer) : t ∈ allTimers := by cases t <;> decide

/-- The ready timers are those that have reached their end and that none is due before. -/
theorem mem_ready (s : State) (t : Timer) :
    t ∈ s.ready ↔ ∃ d, s.timerDue t = some d ∧ d ≤ s.now ∧ ∀ u e, s.timerDue u = some e → d ≤ e := by
  simp only [State.ready, State.timerReady, State.dueBefore, List.mem_filter, mem_allTimers, true_and, Bool.and_eq_true,
    Bool.not_eq_true', List.any_eq_false]
  cases h : s.timerDue t with
  | none => simp
  | some d =>
    simp only [decide_eq_true_eq, Option.some.injEq, exists_eq_left', and_congr_right_iff]
    intro _
    constructor
    · intro before u e hu
      simpa [hu] using before u trivial
    · intro before u _
      cases hu : s.timerDue u with
      | none => simp
      | some e => simpa using before u e hu

/-- The record's gap timer expires when it is due, or one character time later where a start bit is under way then (R22; log 12). -/
theorem timerDue_recordGap {s : State} {due : Nat} (running : s.recordGapDue = some due) :
    s.timerDue .recordGap
      = some (if s.line.receiving && Config.startBit due then due + charTime s.line.settings.speed else due) := by
  simp [State.timerDue, State.gapCertain, running]

/-- With no start bit under way the gap timer expires at the moment it is due (R22). -/
theorem timerDue_recordGap_at_once {s : State} {due : Nat} (running : s.recordGapDue = some due)
    (quiet : s.line.receiving = false ∨ Config.startBit due = false) : s.timerDue .recordGap = some due := by
  rcases quiet with quiet | quiet <;> simp [timerDue_recordGap running, quiet]

end Sys2Proof.Laws
end

