-- ==== Sys2Proof/Laws/State.lean ====
section
/-!
SUPPORT. Reading a block after one block was replaced: the new value, or the block as it was.
-/

namespace Sys2Proof.Machine

@[simp] theorem setNow_now (s : State) (x) : (s.setNow x).now = x := rfl
@[simp] theorem setNow_choices (s : State) (x) : (s.setNow x).choices = s.choices := rfl
@[simp] theorem setNow_pins (s : State) (x) : (s.setNow x).pins = s.pins := rfl
@[simp] theorem setNow_line (s : State) (x) : (s.setNow x).line = s.line := rfl
@[simp] theorem setNow_engine (s : State) (x) : (s.setNow x).engine = s.engine := rfl
@[simp] theorem setNow_tx (s : State) (x) : (s.setNow x).tx = s.tx := rfl
@[simp] theorem setNow_keys (s : State) (x) : (s.setNow x).keys = s.keys := rfl
@[simp] theorem setNow_store (s : State) (x) : (s.setNow x).store = s.store := rfl
@[simp] theorem setNow_rtq (s : State) (x) : (s.setNow x).rtq = s.rtq := rfl
@[simp] theorem setNow_crq (s : State) (x) : (s.setNow x).crq = s.crq := rfl
@[simp] theorem setNow_arb (s : State) (x) : (s.setNow x).arb = s.arb := rfl
@[simp] theorem setNow_comp (s : State) (x) : (s.setNow x).comp = s.comp := rfl
@[simp] theorem setNow_head (s : State) (x) : (s.setNow x).head = s.head := rfl
@[simp] theorem setNow_mon (s : State) (x) : (s.setNow x).mon = s.mon := rfl
@[simp] theorem setNow_port (s : State) (x) : (s.setNow x).port = s.port := rfl
@[simp] theorem setNow_pending (s : State) (x) : (s.setNow x).pending = s.pending := rfl

@[simp] theorem setChoices_now (s : State) (x) : (s.setChoices x).now = s.now := rfl
@[simp] theorem setChoices_choices (s : State) (x) : (s.setChoices x).choices = x := rfl
@[simp] theorem setChoices_pins (s : State) (x) : (s.setChoices x).pins = s.pins := rfl
@[simp] theorem setChoices_line (s : State) (x) : (s.setChoices x).line = s.line := rfl
@[simp] theorem setChoices_engine (s : State) (x) : (s.setChoices x).engine = s.engine := rfl
@[simp] theorem setChoices_tx (s : State) (x) : (s.setChoices x).tx = s.tx := rfl
@[simp] theorem setChoices_keys (s : State) (x) : (s.setChoices x).keys = s.keys := rfl
@[simp] theorem setChoices_store (s : State) (x) : (s.setChoices x).store = s.store := rfl
@[simp] theorem setChoices_rtq (s : State) (x) : (s.setChoices x).rtq = s.rtq := rfl
@[simp] theorem setChoices_crq (s : State) (x) : (s.setChoices x).crq = s.crq := rfl
@[simp] theorem setChoices_arb (s : State) (x) : (s.setChoices x).arb = s.arb := rfl
@[simp] theorem setChoices_comp (s : State) (x) : (s.setChoices x).comp = s.comp := rfl
@[simp] theorem setChoices_head (s : State) (x) : (s.setChoices x).head = s.head := rfl
@[simp] theorem setChoices_mon (s : State) (x) : (s.setChoices x).mon = s.mon := rfl
@[simp] theorem setChoices_port (s : State) (x) : (s.setChoices x).port = s.port := rfl
@[simp] theorem setChoices_pending (s : State) (x) : (s.setChoices x).pending = s.pending := rfl

@[simp] theorem setPins_now (s : State) (x) : (s.setPins x).now = s.now := rfl
@[simp] theorem setPins_choices (s : State) (x) : (s.setPins x).choices = s.choices := rfl
@[simp] theorem setPins_pins (s : State) (x) : (s.setPins x).pins = x := rfl
@[simp] theorem setPins_line (s : State) (x) : (s.setPins x).line = s.line := rfl
@[simp] theorem setPins_engine (s : State) (x) : (s.setPins x).engine = s.engine := rfl
@[simp] theorem setPins_tx (s : State) (x) : (s.setPins x).tx = s.tx := rfl
@[simp] theorem setPins_keys (s : State) (x) : (s.setPins x).keys = s.keys := rfl
@[simp] theorem setPins_store (s : State) (x) : (s.setPins x).store = s.store := rfl
@[simp] theorem setPins_rtq (s : State) (x) : (s.setPins x).rtq = s.rtq := rfl
@[simp] theorem setPins_crq (s : State) (x) : (s.setPins x).crq = s.crq := rfl
@[simp] theorem setPins_arb (s : State) (x) : (s.setPins x).arb = s.arb := rfl
@[simp] theorem setPins_comp (s : State) (x) : (s.setPins x).comp = s.comp := rfl
@[simp] theorem setPins_head (s : State) (x) : (s.setPins x).head = s.head := rfl
@[simp] theorem setPins_mon (s : State) (x) : (s.setPins x).mon = s.mon := rfl
@[simp] theorem setPins_port (s : State) (x) : (s.setPins x).port = s.port := rfl
@[simp] theorem setPins_pending (s : State) (x) : (s.setPins x).pending = s.pending := rfl

@[simp] theorem setLine_now (s : State) (x) : (s.setLine x).now = s.now := rfl
@[simp] theorem setLine_choices (s : State) (x) : (s.setLine x).choices = s.choices := rfl
@[simp] theorem setLine_pins (s : State) (x) : (s.setLine x).pins = s.pins := rfl
@[simp] theorem setLine_line (s : State) (x) : (s.setLine x).line = x := rfl
@[simp] theorem setLine_engine (s : State) (x) : (s.setLine x).engine = s.engine := rfl
@[simp] theorem setLine_tx (s : State) (x) : (s.setLine x).tx = s.tx := rfl
@[simp] theorem setLine_keys (s : State) (x) : (s.setLine x).keys = s.keys := rfl
@[simp] theorem setLine_store (s : State) (x) : (s.setLine x).store = s.store := rfl
@[simp] theorem setLine_rtq (s : State) (x) : (s.setLine x).rtq = s.rtq := rfl
@[simp] theorem setLine_crq (s : State) (x) : (s.setLine x).crq = s.crq := rfl
@[simp] theorem setLine_arb (s : State) (x) : (s.setLine x).arb = s.arb := rfl
@[simp] theorem setLine_comp (s : State) (x) : (s.setLine x).comp = s.comp := rfl
@[simp] theorem setLine_head (s : State) (x) : (s.setLine x).head = s.head := rfl
@[simp] theorem setLine_mon (s : State) (x) : (s.setLine x).mon = s.mon := rfl
@[simp] theorem setLine_port (s : State) (x) : (s.setLine x).port = s.port := rfl
@[simp] theorem setLine_pending (s : State) (x) : (s.setLine x).pending = s.pending := rfl

@[simp] theorem setEngine_now (s : State) (x) : (s.setEngine x).now = s.now := rfl
@[simp] theorem setEngine_choices (s : State) (x) : (s.setEngine x).choices = s.choices := rfl
@[simp] theorem setEngine_pins (s : State) (x) : (s.setEngine x).pins = s.pins := rfl
@[simp] theorem setEngine_line (s : State) (x) : (s.setEngine x).line = s.line := rfl
@[simp] theorem setEngine_engine (s : State) (x) : (s.setEngine x).engine = x := rfl
@[simp] theorem setEngine_tx (s : State) (x) : (s.setEngine x).tx = s.tx := rfl
@[simp] theorem setEngine_keys (s : State) (x) : (s.setEngine x).keys = s.keys := rfl
@[simp] theorem setEngine_store (s : State) (x) : (s.setEngine x).store = s.store := rfl
@[simp] theorem setEngine_rtq (s : State) (x) : (s.setEngine x).rtq = s.rtq := rfl
@[simp] theorem setEngine_crq (s : State) (x) : (s.setEngine x).crq = s.crq := rfl
@[simp] theorem setEngine_arb (s : State) (x) : (s.setEngine x).arb = s.arb := rfl
@[simp] theorem setEngine_comp (s : State) (x) : (s.setEngine x).comp = s.comp := rfl
@[simp] theorem setEngine_head (s : State) (x) : (s.setEngine x).head = s.head := rfl
@[simp] theorem setEngine_mon (s : State) (x) : (s.setEngine x).mon = s.mon := rfl
@[simp] theorem setEngine_port (s : State) (x) : (s.setEngine x).port = s.port := rfl
@[simp] theorem setEngine_pending (s : State) (x) : (s.setEngine x).pending = s.pending := rfl

@[simp] theorem setTx_now (s : State) (x) : (s.setTx x).now = s.now := rfl
@[simp] theorem setTx_choices (s : State) (x) : (s.setTx x).choices = s.choices := rfl
@[simp] theorem setTx_pins (s : State) (x) : (s.setTx x).pins = s.pins := rfl
@[simp] theorem setTx_line (s : State) (x) : (s.setTx x).line = s.line := rfl
@[simp] theorem setTx_engine (s : State) (x) : (s.setTx x).engine = s.engine := rfl
@[simp] theorem setTx_tx (s : State) (x) : (s.setTx x).tx = x := rfl
@[simp] theorem setTx_keys (s : State) (x) : (s.setTx x).keys = s.keys := rfl
@[simp] theorem setTx_store (s : State) (x) : (s.setTx x).store = s.store := rfl
@[simp] theorem setTx_rtq (s : State) (x) : (s.setTx x).rtq = s.rtq := rfl
@[simp] theorem setTx_crq (s : State) (x) : (s.setTx x).crq = s.crq := rfl
@[simp] theorem setTx_arb (s : State) (x) : (s.setTx x).arb = s.arb := rfl
@[simp] theorem setTx_comp (s : State) (x) : (s.setTx x).comp = s.comp := rfl
@[simp] theorem setTx_head (s : State) (x) : (s.setTx x).head = s.head := rfl
@[simp] theorem setTx_mon (s : State) (x) : (s.setTx x).mon = s.mon := rfl
@[simp] theorem setTx_port (s : State) (x) : (s.setTx x).port = s.port := rfl
@[simp] theorem setTx_pending (s : State) (x) : (s.setTx x).pending = s.pending := rfl

@[simp] theorem setKeys_now (s : State) (x) : (s.setKeys x).now = s.now := rfl
@[simp] theorem setKeys_choices (s : State) (x) : (s.setKeys x).choices = s.choices := rfl
@[simp] theorem setKeys_pins (s : State) (x) : (s.setKeys x).pins = s.pins := rfl
@[simp] theorem setKeys_line (s : State) (x) : (s.setKeys x).line = s.line := rfl
@[simp] theorem setKeys_engine (s : State) (x) : (s.setKeys x).engine = s.engine := rfl
@[simp] theorem setKeys_tx (s : State) (x) : (s.setKeys x).tx = s.tx := rfl
@[simp] theorem setKeys_keys (s : State) (x) : (s.setKeys x).keys = x := rfl
@[simp] theorem setKeys_store (s : State) (x) : (s.setKeys x).store = s.store := rfl
@[simp] theorem setKeys_rtq (s : State) (x) : (s.setKeys x).rtq = s.rtq := rfl
@[simp] theorem setKeys_crq (s : State) (x) : (s.setKeys x).crq = s.crq := rfl
@[simp] theorem setKeys_arb (s : State) (x) : (s.setKeys x).arb = s.arb := rfl
@[simp] theorem setKeys_comp (s : State) (x) : (s.setKeys x).comp = s.comp := rfl
@[simp] theorem setKeys_head (s : State) (x) : (s.setKeys x).head = s.head := rfl
@[simp] theorem setKeys_mon (s : State) (x) : (s.setKeys x).mon = s.mon := rfl
@[simp] theorem setKeys_port (s : State) (x) : (s.setKeys x).port = s.port := rfl
@[simp] theorem setKeys_pending (s : State) (x) : (s.setKeys x).pending = s.pending := rfl

@[simp] theorem setStore_now (s : State) (x) : (s.setStore x).now = s.now := rfl
@[simp] theorem setStore_choices (s : State) (x) : (s.setStore x).choices = s.choices := rfl
@[simp] theorem setStore_pins (s : State) (x) : (s.setStore x).pins = s.pins := rfl
@[simp] theorem setStore_line (s : State) (x) : (s.setStore x).line = s.line := rfl
@[simp] theorem setStore_engine (s : State) (x) : (s.setStore x).engine = s.engine := rfl
@[simp] theorem setStore_tx (s : State) (x) : (s.setStore x).tx = s.tx := rfl
@[simp] theorem setStore_keys (s : State) (x) : (s.setStore x).keys = s.keys := rfl
@[simp] theorem setStore_store (s : State) (x) : (s.setStore x).store = x := rfl
@[simp] theorem setStore_rtq (s : State) (x) : (s.setStore x).rtq = s.rtq := rfl
@[simp] theorem setStore_crq (s : State) (x) : (s.setStore x).crq = s.crq := rfl
@[simp] theorem setStore_arb (s : State) (x) : (s.setStore x).arb = s.arb := rfl
@[simp] theorem setStore_comp (s : State) (x) : (s.setStore x).comp = s.comp := rfl
@[simp] theorem setStore_head (s : State) (x) : (s.setStore x).head = s.head := rfl
@[simp] theorem setStore_mon (s : State) (x) : (s.setStore x).mon = s.mon := rfl
@[simp] theorem setStore_port (s : State) (x) : (s.setStore x).port = s.port := rfl
@[simp] theorem setStore_pending (s : State) (x) : (s.setStore x).pending = s.pending := rfl

@[simp] theorem setRtq_now (s : State) (x) : (s.setRtq x).now = s.now := rfl
@[simp] theorem setRtq_choices (s : State) (x) : (s.setRtq x).choices = s.choices := rfl
@[simp] theorem setRtq_pins (s : State) (x) : (s.setRtq x).pins = s.pins := rfl
@[simp] theorem setRtq_line (s : State) (x) : (s.setRtq x).line = s.line := rfl
@[simp] theorem setRtq_engine (s : State) (x) : (s.setRtq x).engine = s.engine := rfl
@[simp] theorem setRtq_tx (s : State) (x) : (s.setRtq x).tx = s.tx := rfl
@[simp] theorem setRtq_keys (s : State) (x) : (s.setRtq x).keys = s.keys := rfl
@[simp] theorem setRtq_store (s : State) (x) : (s.setRtq x).store = s.store := rfl
@[simp] theorem setRtq_rtq (s : State) (x) : (s.setRtq x).rtq = x := rfl
@[simp] theorem setRtq_crq (s : State) (x) : (s.setRtq x).crq = s.crq := rfl
@[simp] theorem setRtq_arb (s : State) (x) : (s.setRtq x).arb = s.arb := rfl
@[simp] theorem setRtq_comp (s : State) (x) : (s.setRtq x).comp = s.comp := rfl
@[simp] theorem setRtq_head (s : State) (x) : (s.setRtq x).head = s.head := rfl
@[simp] theorem setRtq_mon (s : State) (x) : (s.setRtq x).mon = s.mon := rfl
@[simp] theorem setRtq_port (s : State) (x) : (s.setRtq x).port = s.port := rfl
@[simp] theorem setRtq_pending (s : State) (x) : (s.setRtq x).pending = s.pending := rfl

@[simp] theorem setCrq_now (s : State) (x) : (s.setCrq x).now = s.now := rfl
@[simp] theorem setCrq_choices (s : State) (x) : (s.setCrq x).choices = s.choices := rfl
@[simp] theorem setCrq_pins (s : State) (x) : (s.setCrq x).pins = s.pins := rfl
@[simp] theorem setCrq_line (s : State) (x) : (s.setCrq x).line = s.line := rfl
@[simp] theorem setCrq_engine (s : State) (x) : (s.setCrq x).engine = s.engine := rfl
@[simp] theorem setCrq_tx (s : State) (x) : (s.setCrq x).tx = s.tx := rfl
@[simp] theorem setCrq_keys (s : State) (x) : (s.setCrq x).keys = s.keys := rfl
@[simp] theorem setCrq_store (s : State) (x) : (s.setCrq x).store = s.store := rfl
@[simp] theorem setCrq_rtq (s : State) (x) : (s.setCrq x).rtq = s.rtq := rfl
@[simp] theorem setCrq_crq (s : State) (x) : (s.setCrq x).crq = x := rfl
@[simp] theorem setCrq_arb (s : State) (x) : (s.setCrq x).arb = s.arb := rfl
@[simp] theorem setCrq_comp (s : State) (x) : (s.setCrq x).comp = s.comp := rfl
@[simp] theorem setCrq_head (s : State) (x) : (s.setCrq x).head = s.head := rfl
@[simp] theorem setCrq_mon (s : State) (x) : (s.setCrq x).mon = s.mon := rfl
@[simp] theorem setCrq_port (s : State) (x) : (s.setCrq x).port = s.port := rfl
@[simp] theorem setCrq_pending (s : State) (x) : (s.setCrq x).pending = s.pending := rfl

@[simp] theorem setArb_now (s : State) (x) : (s.setArb x).now = s.now := rfl
@[simp] theorem setArb_choices (s : State) (x) : (s.setArb x).choices = s.choices := rfl
@[simp] theorem setArb_pins (s : State) (x) : (s.setArb x).pins = s.pins := rfl
@[simp] theorem setArb_line (s : State) (x) : (s.setArb x).line = s.line := rfl
@[simp] theorem setArb_engine (s : State) (x) : (s.setArb x).engine = s.engine := rfl
@[simp] theorem setArb_tx (s : State) (x) : (s.setArb x).tx = s.tx := rfl
@[simp] theorem setArb_keys (s : State) (x) : (s.setArb x).keys = s.keys := rfl
@[simp] theorem setArb_store (s : State) (x) : (s.setArb x).store = s.store := rfl
@[simp] theorem setArb_rtq (s : State) (x) : (s.setArb x).rtq = s.rtq := rfl
@[simp] theorem setArb_crq (s : State) (x) : (s.setArb x).crq = s.crq := rfl
@[simp] theorem setArb_arb (s : State) (x) : (s.setArb x).arb = x := rfl
@[simp] theorem setArb_comp (s : State) (x) : (s.setArb x).comp = s.comp := rfl
@[simp] theorem setArb_head (s : State) (x) : (s.setArb x).head = s.head := rfl
@[simp] theorem setArb_mon (s : State) (x) : (s.setArb x).mon = s.mon := rfl
@[simp] theorem setArb_port (s : State) (x) : (s.setArb x).port = s.port := rfl
@[simp] theorem setArb_pending (s : State) (x) : (s.setArb x).pending = s.pending := rfl

@[simp] theorem setComp_now (s : State) (x) : (s.setComp x).now = s.now := rfl
@[simp] theorem setComp_choices (s : State) (x) : (s.setComp x).choices = s.choices := rfl
@[simp] theorem setComp_pins (s : State) (x) : (s.setComp x).pins = s.pins := rfl
@[simp] theorem setComp_line (s : State) (x) : (s.setComp x).line = s.line := rfl
@[simp] theorem setComp_engine (s : State) (x) : (s.setComp x).engine = s.engine := rfl
@[simp] theorem setComp_tx (s : State) (x) : (s.setComp x).tx = s.tx := rfl
@[simp] theorem setComp_keys (s : State) (x) : (s.setComp x).keys = s.keys := rfl
@[simp] theorem setComp_store (s : State) (x) : (s.setComp x).store = s.store := rfl
@[simp] theorem setComp_rtq (s : State) (x) : (s.setComp x).rtq = s.rtq := rfl
@[simp] theorem setComp_crq (s : State) (x) : (s.setComp x).crq = s.crq := rfl
@[simp] theorem setComp_arb (s : State) (x) : (s.setComp x).arb = s.arb := rfl
@[simp] theorem setComp_comp (s : State) (x) : (s.setComp x).comp = x := rfl
@[simp] theorem setComp_head (s : State) (x) : (s.setComp x).head = s.head := rfl
@[simp] theorem setComp_mon (s : State) (x) : (s.setComp x).mon = s.mon := rfl
@[simp] theorem setComp_port (s : State) (x) : (s.setComp x).port = s.port := rfl
@[simp] theorem setComp_pending (s : State) (x) : (s.setComp x).pending = s.pending := rfl

@[simp] theorem setHead_now (s : State) (x) : (s.setHead x).now = s.now := rfl
@[simp] theorem setHead_choices (s : State) (x) : (s.setHead x).choices = s.choices := rfl
@[simp] theorem setHead_pins (s : State) (x) : (s.setHead x).pins = s.pins := rfl
@[simp] theorem setHead_line (s : State) (x) : (s.setHead x).line = s.line := rfl
@[simp] theorem setHead_engine (s : State) (x) : (s.setHead x).engine = s.engine := rfl
@[simp] theorem setHead_tx (s : State) (x) : (s.setHead x).tx = s.tx := rfl
@[simp] theorem setHead_keys (s : State) (x) : (s.setHead x).keys = s.keys := rfl
@[simp] theorem setHead_store (s : State) (x) : (s.setHead x).store = s.store := rfl
@[simp] theorem setHead_rtq (s : State) (x) : (s.setHead x).rtq = s.rtq := rfl
@[simp] theorem setHead_crq (s : State) (x) : (s.setHead x).crq = s.crq := rfl
@[simp] theorem setHead_arb (s : State) (x) : (s.setHead x).arb = s.arb := rfl
@[simp] theorem setHead_comp (s : State) (x) : (s.setHead x).comp = s.comp := rfl
@[simp] theorem setHead_head (s : State) (x) : (s.setHead x).head = x := rfl
@[simp] theorem setHead_mon (s : State) (x) : (s.setHead x).mon = s.mon := rfl
@[simp] theorem setHead_port (s : State) (x) : (s.setHead x).port = s.port := rfl
@[simp] theorem setHead_pending (s : State) (x) : (s.setHead x).pending = s.pending := rfl

@[simp] theorem setMon_now (s : State) (x) : (s.setMon x).now = s.now := rfl
@[simp] theorem setMon_choices (s : State) (x) : (s.setMon x).choices = s.choices := rfl
@[simp] theorem setMon_pins (s : State) (x) : (s.setMon x).pins = s.pins := rfl
@[simp] theorem setMon_line (s : State) (x) : (s.setMon x).line = s.line := rfl
@[simp] theorem setMon_engine (s : State) (x) : (s.setMon x).engine = s.engine := rfl
@[simp] theorem setMon_tx (s : State) (x) : (s.setMon x).tx = s.tx := rfl
@[simp] theorem setMon_keys (s : State) (x) : (s.setMon x).keys = s.keys := rfl
@[simp] theorem setMon_store (s : State) (x) : (s.setMon x).store = s.store := rfl
@[simp] theorem setMon_rtq (s : State) (x) : (s.setMon x).rtq = s.rtq := rfl
@[simp] theorem setMon_crq (s : State) (x) : (s.setMon x).crq = s.crq := rfl
@[simp] theorem setMon_arb (s : State) (x) : (s.setMon x).arb = s.arb := rfl
@[simp] theorem setMon_comp (s : State) (x) : (s.setMon x).comp = s.comp := rfl
@[simp] theorem setMon_head (s : State) (x) : (s.setMon x).head = s.head := rfl
@[simp] theorem setMon_mon (s : State) (x) : (s.setMon x).mon = x := rfl
@[simp] theorem setMon_port (s : State) (x) : (s.setMon x).port = s.port := rfl
@[simp] theorem setMon_pending (s : State) (x) : (s.setMon x).pending = s.pending := rfl

@[simp] theorem setPort_now (s : State) (x) : (s.setPort x).now = s.now := rfl
@[simp] theorem setPort_choices (s : State) (x) : (s.setPort x).choices = s.choices := rfl
@[simp] theorem setPort_pins (s : State) (x) : (s.setPort x).pins = s.pins := rfl
@[simp] theorem setPort_line (s : State) (x) : (s.setPort x).line = s.line := rfl
@[simp] theorem setPort_engine (s : State) (x) : (s.setPort x).engine = s.engine := rfl
@[simp] theorem setPort_tx (s : State) (x) : (s.setPort x).tx = s.tx := rfl
@[simp] theorem setPort_keys (s : State) (x) : (s.setPort x).keys = s.keys := rfl
@[simp] theorem setPort_store (s : State) (x) : (s.setPort x).store = s.store := rfl
@[simp] theorem setPort_rtq (s : State) (x) : (s.setPort x).rtq = s.rtq := rfl
@[simp] theorem setPort_crq (s : State) (x) : (s.setPort x).crq = s.crq := rfl
@[simp] theorem setPort_arb (s : State) (x) : (s.setPort x).arb = s.arb := rfl
@[simp] theorem setPort_comp (s : State) (x) : (s.setPort x).comp = s.comp := rfl
@[simp] theorem setPort_head (s : State) (x) : (s.setPort x).head = s.head := rfl
@[simp] theorem setPort_mon (s : State) (x) : (s.setPort x).mon = s.mon := rfl
@[simp] theorem setPort_port (s : State) (x) : (s.setPort x).port = x := rfl
@[simp] theorem setPort_pending (s : State) (x) : (s.setPort x).pending = s.pending := rfl

@[simp] theorem setPending_now (s : State) (x) : (s.setPending x).now = s.now := rfl
@[simp] theorem setPending_choices (s : State) (x) : (s.setPending x).choices = s.choices := rfl
@[simp] theorem setPending_pins (s : State) (x) : (s.setPending x).pins = s.pins := rfl
@[simp] theorem setPending_line (s : State) (x) : (s.setPending x).line = s.line := rfl
@[simp] theorem setPending_engine (s : State) (x) : (s.setPending x).engine = s.engine := rfl
@[simp] theorem setPending_tx (s : State) (x) : (s.setPending x).tx = s.tx := rfl
@[simp] theorem setPending_keys (s : State) (x) : (s.setPending x).keys = s.keys := rfl
@[simp] theorem setPending_store (s : State) (x) : (s.setPending x).store = s.store := rfl
@[simp] theorem setPending_rtq (s : State) (x) : (s.setPending x).rtq = s.rtq := rfl
@[simp] theorem setPending_crq (s : State) (x) : (s.setPending x).crq = s.crq := rfl
@[simp] theorem setPending_arb (s : State) (x) : (s.setPending x).arb = s.arb := rfl
@[simp] theorem setPending_comp (s : State) (x) : (s.setPending x).comp = s.comp := rfl
@[simp] theorem setPending_head (s : State) (x) : (s.setPending x).head = s.head := rfl
@[simp] theorem setPending_mon (s : State) (x) : (s.setPending x).mon = s.mon := rfl
@[simp] theorem setPending_port (s : State) (x) : (s.setPending x).port = s.port := rfl
@[simp] theorem setPending_pending (s : State) (x) : (s.setPending x).pending = x := rfl

/-! ## A later replacement stands -/

@[simp] theorem State.setNow_setNow (s : State) (x y) : (s.setNow x).setNow y = s.setNow y := rfl
@[simp] theorem State.setChoices_setChoices (s : State) (x y) : (s.setChoices x).setChoices y = s.setChoices y := rfl
@[simp] theorem State.setPins_setPins (s : State) (x y) : (s.setPins x).setPins y = s.setPins y := rfl
@[simp] theorem State.setLine_setLine (s : State) (x y) : (s.setLine x).setLine y = s.setLine y := rfl
@[simp] theorem State.setEngine_setEngine (s : State) (x y) : (s.setEngine x).setEngine y = s.setEngine y := rfl
@[simp] theorem State.setTx_setTx (s : State) (x y) : (s.setTx x).setTx y = s.setTx y := rfl
@[simp] theorem State.setKeys_setKeys (s : State) (x y) : (s.setKeys x).setKeys y = s.setKeys y := rfl
@[simp] theorem State.setStore_setStore (s : State) (x y) : (s.setStore x).setStore y = s.setStore y := rfl
@[simp] theorem State.setRtq_setRtq (s : State) (x y) : (s.setRtq x).setRtq y = s.setRtq y := rfl
@[simp] theorem State.setCrq_setCrq (s : State) (x y) : (s.setCrq x).setCrq y = s.setCrq y := rfl
@[simp] theorem State.setArb_setArb (s : State) (x y) : (s.setArb x).setArb y = s.setArb y := rfl
@[simp] theorem State.setComp_setComp (s : State) (x y) : (s.setComp x).setComp y = s.setComp y := rfl
@[simp] theorem State.setHead_setHead (s : State) (x y) : (s.setHead x).setHead y = s.setHead y := rfl
@[simp] theorem State.setMon_setMon (s : State) (x y) : (s.setMon x).setMon y = s.setMon y := rfl
@[simp] theorem State.setPort_setPort (s : State) (x y) : (s.setPort x).setPort y = s.setPort y := rfl
@[simp] theorem State.setPending_setPending (s : State) (x y) : (s.setPending x).setPending y = s.setPending y := rfl

end Sys2Proof.Machine
end

