-- ==== Sys2Proof/Laws/Kept.lean ====
section
/-!
SUPPORT. What every shared operation and every follow-up of an event keeps (`State.Kept`), and so what the end of an event keeps.
-/

namespace Sys2Proof.Machine

theorem Route.sameBut_refl (r : Route) : r.sameBut r := rfl

theorem Route.sameBut_trans {a b c : Route} (h : a.sameBut b) (k : b.sameBut c) : a.sameBut c := by
  cases a; cases b; cases c
  simp only [Route.sameBut, Route.mk.injEq] at *
  obtain ⟨-, h2, h3, h4, h5, h6, h7, -⟩ := h
  obtain ⟨-, k2, k3, k4, k5, k6, k7, -⟩ := k
  exact ⟨trivial, k2.trans h2, k3.trans h3, k4.trans h4, k5.trans h5, k6.trans h6, k7.trans h7, trivial⟩

theorem State.Kept.refl (s : State) : s.Kept s :=
  { now := rfl, pins := rfl, settings := rfl, lineState := rfl, trim := rfl, collisions := rfl, rx := rfl, record := rfl
    gap := rfl, counts := rfl, filters := rfl, masks := rfl, default := rfl, flowSettings := rfl, keys := rfl
    softKeys := rfl, glyphs := rfl, energy := rfl, remoteMask := rfl, routes := fun _ => rfl, pause := rfl
    arbiter := rfl, composer := rfl, speed := rfl, dotLimit := rfl, limit := rfl, monitor := rfl, response := rfl
    selection := rfl, mask := rfl, causes := by simp, pending := rfl, rtq := List.suffix_refl _
    crq := List.prefix_refl _, events := List.suffix_refl _ }

theorem causes_trans {a b c : BitVec 10} (h : a &&& b = a) (k : b &&& c = b) : a &&& c = a := by
  calc a &&& c = (a &&& b) &&& c := by rw [h]
    _ = a &&& (b &&& c) := BitVec.and_assoc a b c
    _ = a := by rw [k, h]

theorem State.Kept.trans {a b c : State} (h : a.Kept b) (k : b.Kept c) : a.Kept c where
  now := k.now.trans h.now
  pins := k.pins.trans h.pins
  settings := k.settings.trans h.settings
  lineState := k.lineState.trans h.lineState
  trim := k.trim.trans h.trim
  collisions := k.collisions.trans h.collisions
  rx := k.rx.trans h.rx
  record := k.record.trans h.record
  gap := k.gap.trans h.gap
  counts := k.counts.trans h.counts
  filters := k.filters.trans h.filters
  masks := k.masks.trans h.masks
  default := k.default.trans h.default
  flowSettings := k.flowSettings.trans h.flowSettings
  keys := by
    have h1 := h.keys
    rw [← k.keys] at h1
    exact h1
  softKeys := k.softKeys.trans h.softKeys
  glyphs := k.glyphs.trans h.glyphs
  energy := k.energy.trans h.energy
  remoteMask := k.remoteMask.trans h.remoteMask
  routes := fun n => Route.sameBut_trans (h.routes n) (k.routes n)
  pause := k.pause.trans h.pause
  arbiter := k.arbiter.trans h.arbiter
  composer := k.composer.trans h.composer
  speed := k.speed.trans h.speed
  dotLimit := k.dotLimit.trans h.dotLimit
  limit := k.limit.trans h.limit
  monitor := by
    have h1 := h.monitor
    rw [← k.monitor] at h1
    exact h1
  response := k.response.trans h.response
  selection := k.selection.trans h.selection
  mask := k.mask.trans h.mask
  causes := causes_trans h.causes k.causes
  pending := k.pending.trans h.pending
  rtq := k.rtq.trans h.rtq
  crq := h.crq.trans k.crq
  events := k.events.trans h.events

/-! ## Replacing a block no setting stands in -/

theorem kept_setChoices (s : State) (x) : s.Kept (s.setChoices x) := { State.Kept.refl s with }
theorem kept_setRtq (s : State) (x) (h : x <:+ s.rtq) : s.Kept (s.setRtq x) := { State.Kept.refl s with rtq := h }
theorem kept_setCrq (s : State) (x) (h : s.crq <+: x) : s.Kept (s.setCrq x) := { State.Kept.refl s with crq := h }

theorem kept_setTx (s : State) (x : Transmitter) (h : x.flowSettings = s.tx.flowSettings) : s.Kept (s.setTx x) :=
  { State.Kept.refl s with flowSettings := h }

theorem kept_setComp (s : State) (x : Composer) (h : x.settings = s.comp.settings) : s.Kept (s.setComp x) :=
  { State.Kept.refl s with composer := h }

theorem kept_setArb (s : State) (x : Arbiter) (h : x.settings = s.arb.settings) (k : x.pause = s.arb.pause) :
    s.Kept (s.setArb x) := { State.Kept.refl s with arbiter := h, pause := k }

theorem kept_setEvents (s : State) (x : List KeyEvent) (h : x <:+ s.keys.events) :
    s.Kept (s.setKeys { s.keys with events := x }) := { State.Kept.refl s with events := h }

theorem kept_setHead (s : State) (x : Head) (h : x.speed = s.head.speed) (k : x.dotLimit = s.head.dotLimit)
    (l : x.limit = s.head.limit) : s.Kept (s.setHead x) := { State.Kept.refl s with speed := h, dotLimit := k, limit := l }

theorem kept_setLine (s : State) (x : Line) (h : x.settings = s.line.settings) (k : x.state = s.line.state)
    (l : x.trim = s.line.trim) (m : x.collisions = s.line.collisions) : s.Kept (s.setLine x) :=
  { State.Kept.refl s with settings := h, lineState := k, trim := l, collisions := m }

theorem kept_setReply (s : State) (x) : s.Kept (s.setEngine { s.engine with reply := x }) := { State.Kept.refl s with }

theorem kept_setRoute (s : State) (r : Fin 16) (e : Route) (h : (s.store.route r).sameBut e) :
    s.Kept (s.setStore (s.store.setRoute r e)) :=
  { State.Kept.refl s with
    routes := fun n => by
      show (s.store.route n).sameBut ((s.store.setRoute r e).route n)
      by_cases hn : r = n
      · subst hn
        simpa [Store.route, Store.setRoute] using h
      · have : r.val ≠ n.val := fun c => hn (Fin.ext c)
        simp [Store.route, Store.setRoute, Vector.getElem_set_ne, this, Route.sameBut_refl] }

/-! ## Shared operations -/

theorem kept_raise (s : State) (c : Cause) : s.Kept (s.raise c) :=
  { State.Kept.refl s with
    causes := by
      show s.port.causes &&& (s.port.causes ||| c.mask) = s.port.causes
      ext i
      simp
      intro h
      exact Or.inl h }

theorem kept_pushCrq (s : State) (e : CrqEntry) : s.Kept (s.pushCrq e) := kept_setCrq s _ (List.prefix_append _ _)

theorem kept_post (s : State) (n : Notice) : s.Kept (s.post n) := by
  unfold State.post
  split
  · exact kept_raise s _
  · exact kept_pushCrq s _

theorem kept_pushTtq (s : State) (cs : List Byte) : s.Kept (s.pushTtq cs) := kept_setTx s _ rfl

theorem kept_flowCompare (s : State) : s.Kept s.flowCompare := by
  unfold State.flowCompare
  split
  · exact kept_setTx s _ rfl
  · exact .refl s

theorem kept_requestBreak (s : State) : s.Kept s.requestBreak := by
  unfold State.requestBreak
  split
  · exact kept_setTx s _ rfl
  · exact .refl s

theorem kept_routeDrop (s : State) (r : Fin 16) : s.Kept (s.routeDrop r) :=
  (kept_setRoute s r { s.store.route r with overflow := true } rfl).trans (kept_raise _ _)

@[simp] theorem setPort_settings (a : Arbiter) (p : PortId) (x : Port) : (a.setPort p x).settings = a.settings := by
  cases p <;> rfl

@[simp] theorem setPort_pause (a : Arbiter) (p : PortId) (x : Port) : (a.setPort p x).pause = a.pause := by
  cases p <;> rfl

@[simp] theorem setJob_settings (a : Arbiter) (p : JobPort) (x : JobState) : (a.setJob p x).settings = a.settings := by
  cases p <;> rfl

@[simp] theorem setJob_pause (a : Arbiter) (p : JobPort) (x : JobState) : (a.setJob p x).pause = a.pause := by
  cases p <;> rfl

theorem kept_admit (s : State) (p : PortId) (bodies : List CellBody) : s.Kept (s.putCells p bodies) :=
  kept_setArb s _ (by simp) (by simp)

theorem kept_toPrint (s : State) (yes p style codes) : s.Kept (s.toPrint yes p style codes) := by
  unfold State.toPrint
  split
  · exact kept_admit s _ _
  · exact .refl s

theorem kept_toTransmit (s : State) (yes codes) : s.Kept (s.toTransmit yes codes) := by
  unfold State.toTransmit
  split
  · exact kept_pushTtq s _
  · exact .refl s

theorem kept_toController (s : State) (yes r codes b) : s.Kept (s.toController yes r codes b) := by
  unfold State.toController
  split
  · exact kept_setCrq s _ (List.prefix_append _ _)
  · exact .refl s

theorem kept_markDrop (s : State) (b r) : s.Kept (s.markDrop b r) := by
  unfold State.markDrop
  split
  · exact kept_routeDrop s _
  · exact .refl s

theorem kept_deliver (s : State) (p : PortId) (r : Fin 16) (codes : List Byte) (b : Bool) : s.Kept (s.deliver p r codes b) :=
  (((kept_toPrint s _ _ _ _).trans (kept_toTransmit _ _ _)).trans (kept_toController _ _ _ _ _)).trans (kept_markDrop _ _ _)

/-! ## Print path -/

theorem kept_removeCells (s : State) (p gone rest) : s.Kept (s.removeCells p gone rest) :=
  kept_setArb s _ (by simp) (by simp)

theorem kept_releaseHold (s : State) : s.Kept s.releaseHold := kept_setArb s _ rfl rfl

theorem kept_setJob (s : State) (p : JobPort) (x : JobState) : s.Kept (s.setArb (s.arb.setJob p x)) :=
  kept_setArb s _ (by simp) (by simp)

theorem kept_cancelJob (s : State) (p : JobPort) : s.Kept (s.cancelJob p) := by
  unfold State.cancelJob
  split
  · exact .refl s
  · rename_i gone rest holds _
    have h1 := kept_removeCells s p gone rest
    have h2 : s.Kept (if holds then (s.removeCells p gone rest).releaseHold else s.removeCells p gone rest) := by
      split
      · exact h1.trans (kept_releaseHold _)
      · exact h1
    refine State.Kept.trans ?_ (kept_post _ _)
    generalize (if holds then (s.removeCells p gone rest).releaseHold else s.removeCells p gone rest) = t at h2
    split
    · exact h2.trans (kept_setJob _ _ _)
    · exact h2

theorem kept_cancelKey (s : State) : s.Kept s.cancelKey := by
  unfold State.cancelKey
  split
  · exact .refl s
  · split
    · exact .refl s
    · exact kept_cancelJob s _

theorem kept_watchStall (s : State) : s.Kept s.watchStall := by
  unfold State.watchStall
  repeat' split
  all_goals first | exact .refl s | exact kept_setArb s _ rfl rfl

theorem kept_grant (s : State) (p : PortId) : s.Kept (s.grant p) := by
  unfold State.grant
  split
  · exact .refl s
  · exact (kept_setArb s _ (by simp) (by simp)).trans (kept_setComp _ _ rfl)

theorem kept_append (s : State) : s.Kept (s.setComp s.comp.append) := by
  apply kept_setComp
  unfold Composer.append
  split <;> rfl

theorem kept_finishLine (s : State) : s.Kept s.finishLine := by
  unfold State.finishLine
  split
  · exact .refl s
  · rename_i l _
    have h : s.Kept (s.setComp { s.comp with line := none }) := kept_setComp s _ rfl
    simp only
    generalize s.setComp { s.comp with line := none } = t at h
    split
    · refine State.Kept.trans ?_ (kept_post _ _)
      split
      · exact h.trans (kept_releaseHold _)
      · exact h
    · exact h

/-! ## Head Drive -/

theorem kept_moveHead (s : State) (x : HeadState) : s.Kept (s.moveHead x) := { State.Kept.refl s with }

theorem kept_startRow (s : State) : s.Kept s.startRow := by
  have hf : ∀ (t : State) n, t.Kept (t.startFeedRow n) := by
    intro t n
    unfold State.startFeedRow
    refine State.Kept.trans ?_ (kept_moveHead _ _)
    exact kept_setHead t _ rfl rfl rfl
  have hd : ∀ (t : State) r, t.Kept (t.startDotRow r) := by
    intro t r
    unfold State.startDotRow
    refine State.Kept.trans ?_ (kept_moveHead _ _)
    exact kept_setHead t _ rfl rfl rfl
  unfold State.startRow
  split
  · exact hf s _
  · refine State.Kept.trans ?_ (hf _ _)
    exact kept_setComp s _ rfl
  · refine State.Kept.trans ?_ (hd _ _)
    exact kept_setComp s _ rfl
  · exact .refl s

/-! ## Line Transmitter -/

theorem kept_toListening (s : State) : s.Kept s.toListening := kept_setLine s _ rfl rfl rfl rfl

theorem kept_startProgress (s : State) (p : Progress) : s.Kept (s.startProgress p) := kept_setTx s _ rfl

theorem kept_begin (s : State) (src : Source) : s.Kept (s.begin src) := by
  unfold State.begin
  split
  · exact kept_startProgress s _
  · exact kept_setTx s _ rfl
  · split
    · exact (kept_setReply s _).trans (kept_startProgress _ _)
    · exact .refl s
  · exact kept_setTx s _ rfl
  · split
    · exact kept_setTx s _ rfl
    · exact .refl s

theorem kept_doTx (s : State) (a : TxAct) : s.Kept (s.doTx a) := by
  unfold State.doTx
  split
  · exact kept_setLine s _ rfl rfl rfl rfl
  · unfold State.enterReleasing
    split
    · exact kept_toListening s
    · exact kept_setLine s _ rfl rfl rfl rfl
  · unfold State.resumeRecord
    split
    · exact kept_startProgress s _
    · exact .refl s
  · exact kept_begin s _

/-! ## Router and Dispatcher -/

theorem kept_routeHead (s : State) : s.Kept s.routeHead := by
  unfold State.routeHead
  split
  · exact .refl s
  · rename_i c rest h
    exact ((kept_setRtq s _ (h ▸ List.suffix_cons c rest)).trans (kept_deliver _ _ _ _ _)).trans (kept_flowCompare _)

theorem kept_actOn (s : State) (e : KeyEvent) : s.Kept (s.actOn e) := by
  unfold State.actOn
  split
  · exact kept_deliver s _ _ _ _
  · split
    · exact .refl s
    · exact kept_deliver s _ _ _ _
  · exact kept_admit s _ _
  · exact kept_admit s _ _
  · exact kept_setRoute s _ { s.store.route _ with print := _ } rfl
  · exact kept_post s _
  · exact kept_requestBreak s
  · exact kept_cancelKey s
  · exact kept_pushCrq s _
  · exact .refl s
  · exact .refl s

theorem kept_dispatch (s : State) : s.Kept s.dispatch := by
  unfold State.dispatch
  split
  · exact .refl s
  · rename_i e rest h
    exact (kept_setEvents s _ (h ▸ List.suffix_cons e rest)).trans (kept_actOn _ _)

theorem kept_spend (s : State) (b : Bool) : s.Kept (s.spend b) := by
  unfold State.spend
  split
  · exact kept_setChoices s _
  · exact .refl s

/-! ## The end of an event -/

theorem kept_perform (s : State) (a : Action) : s.Kept (s.perform a) := by
  unfold State.perform
  split
  · exact kept_doTx s _
  · exact kept_startRow s
  · exact kept_append s
  · exact kept_finishLine s
  · exact kept_grant s _
  · exact (kept_spend s _).trans (kept_routeHead _)
  · exact (kept_spend s _).trans (kept_dispatch _)

theorem kept_settle (fuel : Nat) (s : State) : s.Kept (State.settle fuel s) := by
  induction fuel generalizing s with
  | zero => exact .refl s
  | succ n ih =>
    unfold State.settle
    split
    · exact .refl s
    · exact ((kept_perform s _).trans (kept_watchStall _)).trans (ih _)

/-- The end of an event keeps what `Kept` lists. -/
theorem kept_finishEvent (s : State) : s.Kept s.finishEvent := (kept_watchStall s).trans (kept_settle _ _)

/-- Where nothing is left to follow, the end of an event changes nothing. -/
theorem finishEvent_of_quiet {s : State} (h : s.quiet = true) : s.finishEvent = s := by
  simp only [State.quiet, Bool.and_eq_true, Option.isNone_iff_eq_none, beq_iff_eq] at h
  have hw : s.watchStall = s := by
    unfold State.watchStall
    rw [← h.2]
    cases s.arb.stall <;> simp
  rw [State.finishEvent, hw]
  show State.settle (8191 + 1) s = s
  rw [State.settle, h.1]

/-- The end of an event is its effect settled. -/
theorem settled_finishEvent (a : State) : a.Settled a.finishEvent := ⟨rfl, kept_finishEvent a, finishEvent_of_quiet⟩

/-- Where nothing is left to follow, a state is itself settled. -/
theorem settled_of_quiet {a : State} (h : a.quiet = true) : a.Settled a :=
  ⟨(finishEvent_of_quiet h).symm, .refl a, fun _ => rfl⟩

end Sys2Proof.Machine
end

