-- ==== Sys2Proof/Laws/Quiet.lean ====
section
/-!
SUPPORT. When nothing is left to follow: its parts, and the replacements that do not disturb it; the taking of a command in Run.
-/

namespace Sys2Proof.Machine

theorem deliveryAction_none {s : State} : s.deliveryAction = none ↔ s.routeTakes = false ∧ s.dispatchTakes = false := by
  unfold State.deliveryAction
  cases s.routeTakes <;> cases s.dispatchTakes <;> simp
  split <;> simp

/-- No follow-up, block by block. -/
theorem nextAction_none {s : State} : s.nextAction = none ↔
    s.txAct = none ∧ s.mayStart = false ∧ s.comp.canAppend = false ∧ s.comp.canFinish = false ∧ s.grantChoice = none
      ∧ s.routeTakes = false ∧ s.dispatchTakes = false := by
  unfold State.nextAction
  cases s.txAct with
  | some a => simp
  | none =>
    cases s.mayStart <;> cases s.comp.canAppend <;> cases s.comp.canFinish <;> cases s.grantChoice <;>
      simp [deliveryAction_none]

theorem quiet_iff {s : State} : s.quiet = true ↔
    s.txAct = none ∧ s.mayStart = false ∧ s.comp.canAppend = false ∧ s.comp.canFinish = false ∧ s.grantChoice = none
      ∧ s.routeTakes = false ∧ s.dispatchTakes = false ∧ s.arb.stall.isSome = s.stallRuns := by
  simp only [State.quiet, Bool.and_eq_true, Option.isNone_iff_eq_none, nextAction_none, beq_iff_eq, and_assoc]

/-! ## Replacements that leave every block's condition as it was -/

theorem quiet_setPort (s : State) (x : CtlPort) : (s.setPort x).quiet = s.quiet := rfl
theorem quiet_setPending (s : State) (x) : (s.setPending x).quiet = s.quiet := rfl
theorem quiet_respond (s : State) (r : Response) : (s.respond r).quiet = s.quiet := rfl
theorem quiet_raise (s : State) (c : Cause) : (s.raise c).quiet = s.quiet := rfl

theorem quiet_setGlyphs (s : State) (x) : (s.setStore { s.store with glyphs := x }).quiet = s.quiet := rfl
theorem quiet_setEnergy (s : State) (x) : (s.setStore { s.store with energy := x }).quiet = s.quiet := rfl
theorem quiet_setRemoteMask (s : State) (x) : (s.setStore { s.store with remoteMask := x }).quiet = s.quiet := rfl

theorem quiet_setEngine (s : State) (x : Engine) (h : x.reply = s.engine.reply) : (s.setEngine x).quiet = s.quiet := by
  obtain ⟨rx, record, gap, counts, filters, masks, default, reply⟩ := x
  subst h
  rfl

theorem quiet_setFlowSettings (s : State) (x) (h : s.line.state ≠ .online) :
    (s.setTx { s.tx with flowSettings := x }).quiet = s.quiet := by
  have h1 : (s.setTx { s.tx with flowSettings := x }).txAct = none := by simp [State.txAct, h]
  have h2 : s.txAct = none := by simp [State.txAct, h]
  rw [Bool.eq_iff_iff, quiet_iff, quiet_iff, h1, h2]
  rfl

theorem txAct_offline {s : State} (h : s.line.state ≠ .online) : s.txAct = none := by simp [State.txAct, h]

/-! ## Taking a command -/

/-- In Run a wake cause does nothing (R166). -/
theorem wake_of_run {s : State} (h : s.mon.power = .run) (c : WakeCause) : s.wake c = s := by
  unfold State.wake
  rw [h]

/-- In Run, a command whose effect leaves nothing to follow: its effect and its answer, no more (R168). -/
theorem take_of_quiet {s : State} {body : State → State × Response} (h : s.mon.power = .run)
    (q : (body s).1.quiet = true) : s.take body = (body s).1.respond (body s).2 := by
  unfold State.take
  rw [wake_of_run h]
  exact finishEvent_of_quiet (by rw [quiet_respond, q])

/-- What a taken command's effect and answer keep to the end of its event. -/
theorem take_kept (s : State) (body : State → State × Response) :
    ((body (s.wake .command)).1.respond (body (s.wake .command)).2).Kept (s.take body) := kept_finishEvent _

/-- A taken command's event: its effect and its answer, settled. -/
theorem take_settled (s : State) (body : State → State × Response) :
    ((body (s.wake .command)).1.respond (body (s.wake .command)).2).Settled (s.take body) := settled_finishEvent _

theorem checked_ok {n : Nat} {p : List Byte} (h : lengthOk n p = true) (body : State → State × Response) (s : State) :
    checked n p body s = body s := by simp [checked, h]

theorem checked_bad {n : Nat} {p : List Byte} (h : lengthOk n p = false) (body : State → State × Response) (s : State) :
    checked n p body s = s.refuse .badField := by simp [checked, h]

theorem field_some {α : Type} {x : Option α} {a : α} (h : x = some a) (body : α → State → State × Response) (s : State) :
    field x body s = body a s := by simp [field, h]

theorem field_none {α : Type} {x : Option α} (h : x = none) (body : α → State → State × Response) (s : State) :
    field x body s = s.refuse .badField := by simp [field, h]

end Sys2Proof.Machine
end

