-- ==== Sys2Proof/Laws/Sound.lean ====
section
/-!
SUPPORT. Every shared operation keeps the bounds, the account of the cells and the pool (`State.Sound`), and so does the end of an event.
-/

namespace Sys2Proof.Machine

variable {s : State}

/-! ## Replacing one block -/

theorem State.Sound.setNow (h : s.Sound) (x) : (s.setNow x).Sound := { h with }
theorem State.Sound.setChoices (h : s.Sound) (x) : (s.setChoices x).Sound := { h with }
theorem State.Sound.setPins (h : s.Sound) (x) : (s.setPins x).Sound := { h with }
theorem State.Sound.setLine (h : s.Sound) (x) : (s.setLine x).Sound := { h with }
theorem State.Sound.setEngine (h : s.Sound) (x) : (s.setEngine x).Sound := { h with }
theorem State.Sound.setHead (h : s.Sound) (x) : (s.setHead x).Sound := { h with }
theorem State.Sound.setMon (h : s.Sound) (x) : (s.setMon x).Sound := { h with }
theorem State.Sound.setPort (h : s.Sound) (x) : (s.setPort x).Sound := { h with }
theorem State.Sound.setPending (h : s.Sound) (x) : (s.setPending x).Sound := { h with }

theorem State.Sound.setTx (h : s.Sound) (x : Transmitter) (k : x.ttq.length ≤ 128) : (s.setTx x).Sound := { h with ttq := k }

theorem State.Sound.setKeys (h : s.Sound) (x : Keyboard) (k : x.down.length ≤ 6) (l : x.events.length ≤ 24) :
    (s.setKeys x).Sound := { h with down := k, events := l }

theorem State.Sound.setStore (h : s.Sound) (x : Store) (k : x.PoolOk) : (s.setStore x).Sound := { h with pool := k }
theorem State.Sound.setRtq (h : s.Sound) (x) (k : x.length ≤ 256) : (s.setRtq x).Sound := { h with rtq := k }
theorem State.Sound.setCrq (h : s.Sound) (x) (k : x.length ≤ 64) : (s.setCrq x).Sound := { h with crq := k }

theorem State.Sound.setComp (h : s.Sound) (x : Composer) (k : x.rows.length ≤ 4) : (s.setComp x).Sound :=
  { h with rows := k }

/-- The Arbiter may be replaced by one with the same ports. -/
theorem State.Sound.setArb (h : s.Sound) (x : Arbiter) (k0 : x.p0 = s.arb.p0) (k1 : x.p1 = s.arb.p1)
    (k2 : x.p2 = s.arb.p2) (k3 : x.p3 = s.arb.p3) : (s.setArb x).Sound :=
  { h with
    p0 := by show x.p0.Ok 160; rw [k0]; exact h.p0
    p1 := by show x.p1.Ok 32; rw [k1]; exact h.p1
    p2 := by show x.p2.Ok 96; rw [k2]; exact h.p2
    p3 := by show x.p3.Ok 96; rw [k3]; exact h.p3 }

theorem State.Sound.port (h : s.Sound) (p : PortId) : (s.arb.port p).Ok (portCapacity p) := by
  cases p
  · exact h.p0
  · exact h.p1
  · exact h.p2
  · exact h.p3

/-- One port may be replaced by one that is in order. -/
theorem State.Sound.replacePort (h : s.Sound) (p : PortId) (x : Port) (k : x.Ok (portCapacity p)) :
    (s.setArb (s.arb.setPort p x)).Sound := by
  cases p
  · exact { h with p0 := k }
  · exact { h with p1 := k }
  · exact { h with p2 := k }
  · exact { h with p3 := k }

/-! ## Ports -/

theorem Port.Ok.putCells {x : Port} {c : Nat} (h : x.Ok c) (now : Nat) (bodies : List CellBody)
    (k : x.cells.length + bodies.length ≤ c) : (x.putCells now bodies).Ok c where
  bound := by simpa [Port.putCells] using k
  account := by
    have := h.account
    simp [Port.putCells]
    omega

theorem Port.Ok.compose {x : Port} {c : Nat} (h : x.Ok c) (line rest : List PortCell)
    (k : line.length + rest.length = x.cells.length) : (x.compose line rest).Ok c where
  bound := by
    have := h.bound
    simp [Port.compose]
    omega
  account := by
    have := h.account
    simp [Port.compose]
    omega

theorem Port.Ok.discard {x : Port} {c : Nat} (h : x.Ok c) (gone rest : List PortCell)
    (k : gone.length + rest.length = x.cells.length) : (x.discard gone rest).Ok c where
  bound := by
    have := h.bound
    simp [Port.discard]
    omega
  account := by
    have := h.account
    simp [Port.discard]
    omega

theorem Port.Ok.empty {x : Port} {c : Nat} (h : x.Ok c) : x.empty.Ok c := h.discard _ _ (by simp)

/-! ## Shared operations -/

theorem State.Sound.reach (h : s.Sound) (t : Nat) : (s.reach t).Sound := h.setNow _
theorem State.Sound.raise (h : s.Sound) (c : Cause) : (s.raise c).Sound := h.setPort _

theorem State.Sound.pushCrq (h : s.Sound) (e : CrqEntry) (k : 0 < s.crqRoom) : (s.pushCrq e).Sound := by
  apply h.setCrq
  simp [State.crqRoom, Config.crqCap] at k ⊢
  omega

theorem State.Sound.post (h : s.Sound) (n : Notice) : (s.post n).Sound := by
  unfold State.post
  split
  · exact h.raise _
  · exact h.pushCrq _ (by omega)

theorem State.Sound.pushTtq (h : s.Sound) (cs : List Byte) (k : cs.length ≤ s.ttqRoom) : (s.pushTtq cs).Sound := by
  apply h.setTx
  have := h.ttq
  simp [State.ttqRoom, Config.ttqCap] at k ⊢
  omega

theorem State.Sound.flowCompare (h : s.Sound) : s.flowCompare.Sound := by
  unfold State.flowCompare
  split
  · exact h.setTx _ h.ttq
  · exact h

theorem State.Sound.requestBreak (h : s.Sound) : s.requestBreak.Sound := by
  unfold State.requestBreak
  split
  · exact h.setTx _ h.ttq
  · exact h

theorem State.Sound.pushRtq (h : s.Sound) (cs : List TextCell) (k : s.rtq.length + cs.length ≤ 256) :
    (s.pushRtq cs).Sound := (h.setRtq _ (by simpa using k)).flowCompare

theorem Store.PoolOk.setRoute {st : Store} (h : st.PoolOk) (r : Fin 16) (e : Route) : (st.setRoute r e).PoolOk := { h with }

theorem State.Sound.routeDrop (h : s.Sound) (r : Fin 16) : (s.routeDrop r).Sound :=
  State.Sound.raise (h.setStore _ (h.pool.setRoute r _)) _

theorem State.Sound.putCells (h : s.Sound) (p : PortId) (bodies : List CellBody) (k : bodies.length ≤ s.arb.room p) :
    (s.putCells p bodies).Sound := by
  apply h.replacePort
  apply (h.port p).putCells
  have := (h.port p).bound
  unfold Arbiter.room at k
  omega

theorem State.Sound.toPrint (h : s.Sound) (yes : Bool) (p : PortId) (style : Style) (codes : List Byte)
    (k : yes = true → codes.length ≤ s.arb.room p) : (s.toPrint yes p style codes).Sound := by
  unfold State.toPrint
  split
  · rename_i hy
    exact h.putCells _ _ (by simpa using k hy)
  · exact h

theorem State.Sound.toTransmit (h : s.Sound) (yes : Bool) (codes : List Byte)
    (k : yes = true → codes.length ≤ s.ttqRoom) : (s.toTransmit yes codes).Sound := by
  unfold State.toTransmit
  split
  · rename_i hy
    exact h.pushTtq _ (k hy)
  · exact h

theorem State.Sound.toController (h : s.Sound) (yes : Bool) (r : Fin 16) (codes : List Byte) (b : Bool)
    (k : yes = true → codes.length ≤ s.crqRoom) : (s.toController yes r codes b).Sound := by
  unfold State.toController
  split
  · rename_i hy
    apply h.setCrq
    have := k hy
    have := h.crq
    simp [State.crqRoom, Config.crqCap] at *
    omega
  · exact h

theorem State.Sound.markDrop (h : s.Sound) (b : Bool) (r : Fin 16) : (s.markDrop b r).Sound := by
  unfold State.markDrop
  split
  · exact h.routeDrop _
  · exact h

/-! The rooms of the sinks do not depend on what another sink received. -/

@[simp] theorem toPrint_ttqRoom (s : State) (yes p style codes) : (s.toPrint yes p style codes).ttqRoom = s.ttqRoom := by
  unfold State.toPrint
  split <;> rfl

@[simp] theorem toPrint_crqRoom (s : State) (yes p style codes) : (s.toPrint yes p style codes).crqRoom = s.crqRoom := by
  unfold State.toPrint
  split <;> rfl

@[simp] theorem toTransmit_crqRoom (s : State) (yes codes) : (s.toTransmit yes codes).crqRoom = s.crqRoom := by
  unfold State.toTransmit
  split <;> rfl

theorem State.Sound.deliver (h : s.Sound) (p : PortId) (r : Fin 16) (codes : List Byte) (b : Bool) :
    (s.deliver p r codes b).Sound := by
  unfold State.deliver sinkRoom
  simp only
  refine State.Sound.markDrop (State.Sound.toController (State.Sound.toTransmit (h.toPrint _ _ _ _ ?_) _ _ ?_) _ _ _ _ ?_) _ _
  · intro k
    simp only [Bool.and_eq_true, Bool.or_eq_true, Bool.not_eq_true', decide_eq_true_eq] at k
    rcases k with ⟨k1, k2 | k2⟩
    · rw [k1] at k2; cases k2
    · exact k2
  · intro k
    simp only [Bool.and_eq_true, Bool.or_eq_true, Bool.not_eq_true', decide_eq_true_eq] at k
    rcases k with ⟨k1, k2 | k2⟩
    · rw [k1] at k2; cases k2
    · simpa using k2
  · intro k
    simp only [Bool.and_eq_true, Bool.or_eq_true, Bool.not_eq_true', decide_eq_true_eq] at k
    rcases k with ⟨k1, k2 | k2⟩
    · rw [k1] at k2; cases k2
    · simpa using k2

end Sys2Proof.Machine
end

