-- ==== Sys2Proof/Laws/SoundPrint.lean ====
section
/-!
SUPPORT. The print path keeps `State.Sound`: text lines and jobs split a port's cells without loss, grants, cancels, stalls and resets count each cell once.
-/

namespace Sys2Proof.Machine

variable {s : State}

/-! ## Splitting a port's cells -/

/-- A text line and what stays are the cells walked over (R116). -/
theorem walkLine_split (cr : CrMode) (pos : Nat) (adv : List Nat) (passed cells : List PortCell) (l r : List PortCell)
    (h : walkLine cr pos adv passed cells = some (l, r)) : l ++ r = passed.reverse ++ cells := by
  induction cells generalizing pos adv passed with
  | nil => simp [walkLine] at h
  | cons c rest ih =>
    unfold walkLine at h
    split at h
    · split at h
      · rename_i hp
        simp only [Option.some.injEq, Prod.mk.injEq] at h
        obtain ⟨rfl, rfl⟩ := h
        simp [List.isEmpty_iff.mp hp]
      · simp only [Option.some.injEq, Prod.mk.injEq] at h
        obtain ⟨rfl, rfl⟩ := h
        rfl
    · simp only [Option.some.injEq, Prod.mk.injEq] at h
      obtain ⟨rfl, rfl⟩ := h
      simp
    · split at h
      · split at h
        · simp only [Option.some.injEq, Prod.mk.injEq] at h
          obtain ⟨rfl, rfl⟩ := h
          rfl
        · simpa using ih _ _ _ h
      · split at h
        · simp only [Option.some.injEq, Prod.mk.injEq] at h
          obtain ⟨rfl, rfl⟩ := h
          simp
        · split at h
          · split at h
            · simp only [Option.some.injEq, Prod.mk.injEq] at h
              obtain ⟨rfl, rfl⟩ := h
              simp
            · simpa using ih _ _ _ h
          · split at h
            · simpa using ih _ _ _ h
            · simpa using ih _ _ _ h

/-- A granted line and what stays are the port's cells (R119). -/
theorem grantLine_split {cr : CrMode} {now t : Nat} {cells l r : List PortCell} (h : grantLine cr now t cells = some (l, r)) :
    l ++ r = cells := by
  unfold grantLine at h
  split at h
  · rename_i x hx
    cases h
    simpa [completeLine] using walkLine_split cr 0 [] [] cells l r hx
  · split at h
    · simp only [Option.some.injEq, Prod.mk.injEq] at h
      obtain ⟨rfl, rfl⟩ := h
      simp
    · cases h

/-- A job's cells and those behind it are the cells (R123). -/
theorem jobSpan_split (cells : List PortCell) : (jobSpan cells).1 ++ (jobSpan cells).2 = cells := by
  induction cells with
  | nil => rfl
  | cons c rest ih =>
    unfold jobSpan
    split <;> simp [ih]

theorem oldestJob_split {p : JobPort} {gone rest : List PortCell} {b : Bool} (h : s.oldestJob p = some (gone, rest, b)) :
    gone ++ rest = (s.arb.port p.toPort).cells := by
  unfold State.oldestJob at h
  simp only at h
  split at h
  · simp only [Option.some.injEq, Prod.mk.injEq] at h
    obtain ⟨rfl, rfl, -⟩ := h
    exact jobSpan_split _
  · split at h
    · rename_i c tail hc
      split at h
      · simp only [Option.some.injEq, Prod.mk.injEq] at h
        obtain ⟨rfl, rfl, -⟩ := h
        simp [jobSpan_split, hc]
      · cases h
    · cases h

/-! ## Admission, cancel, stall -/

theorem State.Sound.setJob (h : s.Sound) (p : JobPort) (x : JobState) : (s.setArb (s.arb.setJob p x)).Sound := by
  cases p <;> exact h.setArb _ rfl rfl rfl rfl

theorem State.Sound.admissionNotice (h : s.Sound) (p : JobPort) (a : Admission) : (s.admissionNotice p a).Sound := by
  unfold State.admissionNotice
  split
  · exact h
  · exact h
  · exact (h.post _).raise _
  · exact (h.post _).raise _

theorem State.Sound.admitSegment (h : s.Sound) (p : JobPort) (seg : Segment) (style : Style) (codes : List Byte)
    (k : s.segmentFits p seg style codes = true) : (s.admitSegment p seg style codes).Sound := by
  unfold State.admitSegment
  apply State.Sound.admissionNotice
  apply State.Sound.setJob
  exact h.putCells _ _ (by simpa [State.segmentFits] using k)

theorem State.Sound.removeCells (h : s.Sound) (p : JobPort) (gone rest : List PortCell)
    (k : gone ++ rest = (s.arb.port p.toPort).cells) : (s.removeCells p gone rest).Sound := by
  apply h.replacePort
  apply (h.port _).discard
  rw [← k]
  simp

theorem State.Sound.releaseHold (h : s.Sound) : s.releaseHold.Sound := h.setArb _ rfl rfl rfl rfl

theorem State.Sound.cancelJob (h : s.Sound) (p : JobPort) : (s.cancelJob p).Sound := by
  unfold State.cancelJob
  split
  · exact h
  · rename_i gone rest holds hj
    have h1 := h.removeCells p gone rest (oldestJob_split hj)
    have h2 : (if holds then (s.removeCells p gone rest).releaseHold else s.removeCells p gone rest).Sound := by
      split
      · exact h1.releaseHold
      · exact h1
    apply State.Sound.post
    generalize (if holds then (s.removeCells p gone rest).releaseHold else s.removeCells p gone rest) = t at h2
    split
    · exact h2.setJob _ _
    · exact h2

theorem State.Sound.cancelKey (h : s.Sound) : s.cancelKey.Sound := by
  unfold State.cancelKey
  split
  · exact h
  · split
    · exact h
    · exact h.cancelJob _

theorem State.Sound.stallJob (h : s.Sound) (p : JobPort) : (s.stallJob p).Sound :=
  (((h.removeCells p _ _ (jobSpan_split _)).releaseHold.setJob _ _).post _).raise _

theorem State.Sound.missingLast (h : s.Sound) : s.missingLast.Sound := by
  unfold State.missingLast
  split
  · apply State.Sound.raise
    apply State.Sound.post
    split
    · exact h.setArb _ rfl rfl rfl rfl
    · rename_i hr
      exact (h.putCells .p3 [.jobEnd] (by simp; omega)).setArb _ rfl rfl rfl rfl
  · exact h

theorem State.Sound.watchStall (h : s.Sound) : s.watchStall.Sound := by
  unfold State.watchStall
  repeat' split
  all_goals first | exact h | exact h.setArb _ rfl rfl rfl rfl

theorem State.Sound.resetPrintPath (h : s.Sound) : s.resetPrintPath.Sound := by
  unfold State.resetPrintPath
  refine State.Sound.setComp ?_ _ (by simp)
  exact { h with p0 := h.p0.empty, p1 := h.p1.empty, p2 := h.p2.empty, p3 := h.p3.empty }

/-! ## Grant and composition -/

theorem State.Sound.grant (h : s.Sound) (p : PortId) : (s.grant p).Sound := by
  unfold State.grant
  split
  · exact h
  · rename_i line rest hl
    refine State.Sound.setComp ?_ _ h.rows
    have hs : line ++ rest = (s.arb.port p).cells := grantLine_split hl
    have h1 := h.replacePort p _ ((h.port p).compose line rest (by rw [← hs]; simp))
    exact { h1 with }

theorem State.Sound.append (h : s.Sound) (k : s.comp.canAppend = true) : (s.setComp s.comp.append).Sound := by
  apply h.setComp
  unfold Composer.canAppend at k
  unfold Composer.append
  split
  · rename_i l hl
    rw [hl] at k
    simp [Config.rowCap] at k
    have := of_decide_eq_true k.2
    simp only [List.length_append, List.length_take]
    omega
  · exact h.rows

theorem State.Sound.finishLine (h : s.Sound) : s.finishLine.Sound := by
  unfold State.finishLine
  split
  · exact h
  · have h1 : (s.setComp { s.comp with line := none }).Sound := h.setComp _ h.rows
    generalize s.setComp { s.comp with line := none } = t at h1
    split
    · apply State.Sound.post
      split
      · exact h1.releaseHold
      · exact h1
    · exact h1

/-! ## Head Drive -/

theorem State.Sound.moveHead (h : s.Sound) (x : HeadState) : (s.moveHead x).Sound := (h.setHead _).setMon _

theorem State.Sound.startFeedRow (h : s.Sound) (n : Nat) : (s.startFeedRow n).Sound := by
  unfold State.startFeedRow
  exact (h.setHead _).moveHead _

theorem State.Sound.startDotRow (h : s.Sound) (row : DotRow) : (s.startDotRow row).Sound := by
  unfold State.startDotRow
  exact (h.setHead _).moveHead _

theorem State.Sound.startRow (h : s.Sound) : s.startRow.Sound := by
  have hr := h.rows
  unfold State.startRow
  split
  · exact h.startFeedRow _
  · rename_i hq _
    rw [hq] at hr
    refine State.Sound.startFeedRow (h.setComp _ ?_) _
    simp at hr ⊢
    omega
  · rename_i hq _
    rw [hq] at hr
    refine State.Sound.startDotRow (h.setComp _ ?_) _
    simp at hr ⊢
    omega
  · exact h

theorem State.Sound.nextRow (h : s.Sound) : s.nextRow.Sound := by
  unfold State.nextRow
  repeat' split
  · exact h.moveHead _
  · exact h.startRow
  · exact h.moveHead _

theorem State.Sound.endRow (h : s.Sound) : s.endRow.Sound := (h.setHead _).nextRow

theorem State.Sound.resetHead (h : s.Sound) : s.resetHead.Sound := by
  unfold State.resetHead
  split <;> exact h.setHead _

theorem State.Sound.syncHolds (h : s.Sound) : s.syncHolds.Sound := by
  unfold State.syncHolds
  repeat' split
  all_goals first | exact h | exact h.moveHead _ | exact (h.setHead _).moveHead _

theorem State.Sound.recomputeLimit (h : s.Sound) : s.recomputeLimit.Sound := h.setHead _

end Sys2Proof.Machine
end

