-- ==== Sys2Proof/Laws/SoundEvent.lean ====
section
/-!
SUPPORT. The Monitor, the modem, the transmitter, the keyboard, the Record Engine and the end of an event keep `State.Sound`.
-/

namespace Sys2Proof.Machine

variable {s : State}

/-! ## Monitor -/

theorem State.Sound.raiseIf (h : s.Sound) (b : Bool) (c : Cause) : (s.raiseIf b c).Sound := by
  unfold State.raiseIf
  split
  · exact h.raise _
  · exact h

theorem State.Sound.inputChange (h : s.Sound) (i : Sensor) (x : Bool) : (s.inputChange i x).Sound := (h.setPins _).setMon _

theorem State.Sound.inputStable (h : s.Sound) (i : Sensor) : (s.inputStable i).Sound := ((h.setMon _).raiseIf _ _).syncHolds

theorem State.Sound.sampleSupply (h : s.Sound) : s.sampleSupply.Sound :=
  (((h.setMon _).raiseIf _ _).syncHolds).recomputeLimit

theorem State.Sound.compareThermal (h : s.Sound) : s.compareThermal.Sound := ((h.setMon _).raiseIf _ _).syncHolds

theorem State.Sound.readThermistor (h : s.Sound) : s.readThermistor.Sound := by
  unfold State.readThermistor
  simp only
  repeat' split
  · exact (h.setMon _).compareThermal.recomputeLimit
  · exact (h.setMon _).compareThermal
  · exact h.setMon _
  · exact ((h.setMon _).raise _).recomputeLimit

theorem State.Sound.enterDoze (h : s.Sound) : s.enterDoze.Sound := (h.setMon _).setKeys _ h.down h.events

theorem State.Sound.measureInputs (h : s.Sound) : s.measureInputs.Sound := (h.setPins _).setChoices _

theorem State.Sound.wake (h : s.Sound) (c : WakeCause) : (s.wake c).Sound := by
  unfold State.wake
  split
  · exact h
  · exact ((h.setMon _).post _).measureInputs.sampleSupply.readThermistor

/-! ## Modem -/

theorem State.Sound.dropRecord (h : s.Sound) : s.dropRecord.Sound := (h.setEngine _).setLine _
theorem State.Sound.abandon (h : s.Sound) (e : RecordError) : (s.abandon e).Sound := (h.dropRecord.setEngine _).raise _
theorem State.Sound.expireGap (h : s.Sound) (late : Bool) : (s.expireGap late).Sound := by
  cases late
  · exact h
  · exact h.abandon .gap
theorem State.Sound.holdCharacter (h : s.Sound) : s.holdCharacter.Sound := (h.setLine _).setEngine _
theorem State.Sound.quietLine (h : s.Sound) : s.quietLine.Sound := (h.dropRecord.setEngine _).setTx _ h.ttq

theorem State.Sound.loseSlot (h : s.Sound) (n : Fin 4) : (s.loseSlot n).Sound := by
  unfold State.loseSlot
  split
  · refine State.Sound.post (h.setTx _ ?_) _
    exact h.ttq
  · exact h

theorem State.Sound.endConnection (h : s.Sound) : s.endConnection.Sound := by
  apply State.Sound.missingLast
  have : ∀ (l : List (Fin 4)) (t : State), t.Sound → (l.foldl State.loseSlot t).Sound := by
    intro l
    induction l with
    | nil => exact fun t ht => ht
    | cons a l ih => exact fun t ht => ih _ (ht.loseSlot a)
  exact this _ _ h.quietLine

theorem State.Sound.takeCarrier (h : s.Sound) : s.takeCarrier.Sound := by
  unfold State.takeCarrier
  split
  · exact (h.setLine _).wake _
  · exact h

theorem State.Sound.toListening (h : s.Sound) : s.toListening.Sound := h.setLine _
theorem State.Sound.postLineState (h : s.Sound) : s.postLineState.Sound := h.post _

theorem State.Sound.enterOnline (h : s.Sound) : s.enterOnline.Sound := by
  unfold State.enterOnline
  apply State.Sound.flowCompare
  apply State.Sound.postLineState
  split
  · exact h.setLine _
  · exact (h.setLine _).toListening

theorem State.Sound.loseLine (h : s.Sound) : s.loseLine.Sound :=
  ((((h.setLine _).endConnection).raise _).post _).takeCarrier

theorem State.Sound.resetLine (h : s.Sound) : s.resetLine.Sound := by
  unfold State.resetLine
  exact ((h.setLine _).quietLine.setTx _ (by simp)).missingLast

/-! ## Transmitter -/

theorem State.Sound.startProgress (h : s.Sound) (p : Progress) : (s.startProgress p).Sound := h.setTx _ h.ttq

theorem State.Sound.begin (h : s.Sound) (src : Source) : (s.begin src).Sound := by
  have ht := h.ttq
  unfold State.begin
  split
  · exact h.startProgress _
  · exact h.setTx _ h.ttq
  · split
    · exact (h.setEngine _).startProgress _
    · exact h
  · exact h.setTx _ h.ttq
  · split
    · rename_i heq
      rw [heq] at ht
      refine h.setTx _ ?_
      simp at ht ⊢
      omega
    · exact h

theorem State.Sound.endItem (h : s.Sound) : s.endItem.Sound := by
  unfold State.endItem
  split
  · exact h
  · split
    · exact State.Sound.flowCompare (h.setTx _ h.ttq)
    · exact h.startProgress _
  · exact h.startProgress _
  · exact h
  · split
    · exact h.startProgress _
    · unfold State.recordSent
      split
      · exact h.startProgress _
      · refine State.Sound.post ((h.startProgress _).setTx _ ?_) _
        exact h.ttq

theorem State.Sound.doTx (h : s.Sound) (a : TxAct) : (s.doTx a).Sound := by
  unfold State.doTx
  split
  · exact h.setLine _
  · unfold State.enterReleasing
    split
    · exact h.toListening
    · exact h.setLine _
  · unfold State.resumeRecord
    split
    · exact h.startProgress _
    · exact h
  · exact h.begin _

/-! ## Keyboard -/

theorem releaseStep_events (closed : BitVec 96) (k : Keyboard) (key : Fin 96) :
    (k.releaseStep closed key).events = k.events := by
  unfold Keyboard.releaseStep
  repeat' split
  · unfold Keyboard.release Keyboard.stopRepeat
    repeat' split
    all_goals rfl
  · rfl
  · rfl
  · rfl

theorem releaseStep_down (closed : BitVec 96) (k : Keyboard) (key : Fin 96) :
    (k.releaseStep closed key).down.length ≤ k.down.length := by
  unfold Keyboard.releaseStep
  repeat' split
  · exact List.length_filter_le _ _
  · exact Nat.le_refl _
  · exact Nat.le_refl _
  · exact Nat.le_refl _

theorem releases_events (closed : BitVec 96) (l : List (Fin 96)) (k : Keyboard) :
    (l.foldl (Keyboard.releaseStep closed) k).events = k.events := by
  induction l generalizing k with
  | nil => rfl
  | cons a l ih => exact (ih _).trans (releaseStep_events _ _ _)

theorem releases_down (closed : BitVec 96) (l : List (Fin 96)) (k : Keyboard) :
    (l.foldl (Keyboard.releaseStep closed) k).down.length ≤ k.down.length := by
  induction l generalizing k with
  | nil => exact Nat.le_refl _
  | cons a l ih => exact Nat.le_trans (ih _) (releaseStep_down _ _ _)

/-- A wake does not touch the keyboard. -/
@[simp] theorem syncHolds_keys (s : State) : s.syncHolds.keys = s.keys := by
  unfold State.syncHolds
  repeat' split
  all_goals rfl

@[simp] theorem raiseIf_keys (s : State) (b c) : (s.raiseIf b c).keys = s.keys := by
  unfold State.raiseIf
  split <;> rfl

@[simp] theorem post_keys (s : State) (n) : (s.post n).keys = s.keys := by
  unfold State.post
  split <;> rfl

@[simp] theorem sampleSupply_keys (s : State) : s.sampleSupply.keys = s.keys := by
  simp [State.sampleSupply, State.recomputeLimit]

@[simp] theorem compareThermal_keys (s : State) : s.compareThermal.keys = s.keys := by
  simp [State.compareThermal]

@[simp] theorem readThermistor_keys (s : State) : s.readThermistor.keys = s.keys := by
  unfold State.readThermistor
  simp only
  repeat' split
  all_goals simp [State.recomputeLimit, State.raise]

@[simp] theorem measureInputs_keys (s : State) : s.measureInputs.keys = s.keys := rfl

@[simp] theorem wake_keys (s : State) (c : WakeCause) : (s.wake c).keys = s.keys := by
  unfold State.wake
  split <;> simp

theorem State.Sound.offerPress (h : s.Sound) (e : KeyEvent) : (s.offerPress e).Sound := by
  unfold State.offerPress
  split
  · rename_i hl
    refine h.setKeys _ h.down ?_
    simp [Config.eventCap] at hl ⊢
    omega
  · exact h.raise _

theorem State.Sound.immediate (h : s.Sound) (a : LocalAction) : (s.immediate a).Sound := by
  unfold State.immediate
  split
  · exact h.requestBreak
  · exact h.cancelKey
  all_goals exact h

theorem State.Sound.admitPress (h : s.Sound) (key : Fin 96) (k : s.keys.down.length < 6) : (s.admitPress key).Sound := by
  have hw := h.wake .keyPress
  have hk : (s.wake .keyPress).keys.down.length < 6 := by simpa using k
  unfold State.admitPress
  generalize s.wake .keyPress = t at hw hk
  have hd : ∀ m, (t.keys.enterDown key m).down.length ≤ 6 := by
    intro m
    simp [Keyboard.enterDown, Keyboard.clearCount]
    omega
  have he : ∀ m, (t.keys.enterDown key m).events.length ≤ 24 := fun _ => hw.events
  simp only
  split
  · rename_i m _
    refine hw.setKeys _ ?_ ?_
    · exact hd (some m)
    · exact he (some m)
  · split
    · refine State.Sound.immediate (hw.setKeys _ ?_ ?_) _
      · exact hd none
      · exact he none
    · refine State.Sound.immediate (hw.setKeys _ ?_ ?_) _
      · exact hd none
      · exact he none
    · refine State.Sound.offerPress (hw.setKeys _ ?_ ?_) _
      · exact hd none
      · exact he none

theorem State.Sound.pressStep (h : s.Sound) (closed : BitVec 96) (key : Fin 96) : (s.pressStep closed key).Sound := by
  unfold State.pressStep
  split
  · rename_i hp
    refine h.admitPress key ?_
    simp only [Keyboard.blocked, Bool.and_eq_true, Bool.not_eq_true', Bool.or_eq_false_iff] at hp
    have := of_decide_eq_false hp.2.1
    simp only [Config.downCap] at this
    omega
  · exact h

theorem State.Sound.scanMatrix (h : s.Sound) (closed : BitVec 96) : (s.scanMatrix closed).Sound := by
  have : ∀ (l : List (Fin 96)) (t : State), t.Sound → (l.foldl (State.pressStep closed) t).Sound := by
    intro l
    induction l with
    | nil => exact fun t ht => ht
    | cons a l ih => exact fun t ht => ih _ (ht.pressStep closed a)
  unfold State.scanMatrix
  refine this _ _ (h.setKeys _ ?_ ?_)
  · exact Nat.le_trans (releases_down _ _ _) h.down
  · exact Nat.le_trans (Nat.le_of_eq (congrArg List.length (releases_events closed allKeys (s.keys.countScan closed)))) h.events

theorem State.Sound.repeatExpiry (h : s.Sound) (r : RepeatKey) : (s.repeatExpiry r).Sound := by
  unfold State.repeatExpiry
  simp only
  split
  · rename_i hl
    refine h.setKeys _ h.down ?_
    simp [Config.repeatLimit] at hl ⊢
    omega
  · exact h.setKeys _ h.down h.events

theorem State.Sound.keyReset (h : s.Sound) : (s.setKeys s.keys.reset).Sound :=
  h.setKeys _ (by simp [Keyboard.reset]) (by simp [Keyboard.reset])

/-! ## Router and Dispatcher -/

theorem State.Sound.routeHead (h : s.Sound) : s.routeHead.Sound := by
  have hr := h.rtq
  unfold State.routeHead
  split
  · exact h
  · rename_i heq
    rw [heq] at hr
    refine State.Sound.flowCompare (State.Sound.deliver (h.setRtq _ ?_) _ _ _ _)
    simp at hr
    omega

theorem State.Sound.actOn (h : s.Sound) (e : KeyEvent) (k : s.attemptTakes e = true) : (s.actOn e).Sound := by
  unfold State.attemptTakes at k
  unfold State.actOn
  split
  · exact h.deliver _ _ _ _
  · split
    · exact h
    · exact h.deliver _ _ _ _
  · rename_i he
    rw [he] at k
    exact h.putCells _ _ (of_decide_eq_true k)
  · rename_i he
    rw [he] at k
    exact h.putCells _ _ (of_decide_eq_true k)
  · exact h.setStore _ (h.pool.setRoute _ _)
  · exact h.post _
  · exact h.requestBreak
  · exact h.cancelKey
  · rename_i he
    rw [he] at k
    exact h.pushCrq _ (by simpa using k)
  · exact h
  · exact h

theorem State.Sound.dispatch (h : s.Sound) (k : s.dispatchTakes = true) : s.dispatch.Sound := by
  have hl := h.events
  unfold State.dispatchTakes at k
  unfold State.dispatch
  split
  · exact h
  · rename_i e rest heq
    rw [heq] at k hl
    refine State.Sound.actOn (h.setKeys _ ?_ ?_) e k
    · exact h.down
    · simp at hl ⊢
      omega

theorem State.Sound.spend (h : s.Sound) (b : Bool) : (s.spend b).Sound := by
  unfold State.spend
  split
  · exact h.setChoices _
  · exact h

/-! ## The end of an event -/

theorem nextAction_append {a : Action} (h : s.nextAction = some a) (k : a = .append) : s.comp.canAppend = true := by
  subst k
  unfold State.nextAction State.deliveryAction at h
  repeat' split at h
  all_goals first | assumption | simp_all

theorem nextAction_dispatch {b : Bool} (h : s.nextAction = some (.dispatch b)) : s.dispatchTakes = true := by
  unfold State.nextAction State.deliveryAction at h
  repeat' split at h
  all_goals first | assumption | simp_all

theorem State.Sound.perform (h : s.Sound) {a : Action} (k : s.nextAction = some a) : (s.perform a).Sound := by
  unfold State.perform
  split
  · exact h.doTx _
  · exact h.startRow
  · exact h.append (nextAction_append k rfl)
  · exact h.finishLine
  · exact h.grant _
  · exact (h.spend _).routeHead
  · rename_i b
    refine (h.spend b).dispatch ?_
    have hd := nextAction_dispatch k
    unfold State.spend
    split
    · exact hd
    · exact hd

theorem State.Sound.settle (h : s.Sound) (fuel : Nat) : (State.settle fuel s).Sound := by
  induction fuel generalizing s with
  | zero => exact h
  | succ n ih =>
    unfold State.settle
    split
    · exact h
    · rename_i hk
      exact ih (h.perform hk).watchStall

/-- The end of an event keeps the bounds, the account and the pool. -/
theorem State.Sound.finishEvent (h : s.Sound) : s.finishEvent.Sound := h.watchStall.settle _

/-- A taken command keeps them if its effect does. -/
theorem State.Sound.take (h : s.Sound) (body : State → State × Response) (k : ∀ t : State, t.Sound → (body t).1.Sound) :
    (s.take body).Sound := State.Sound.finishEvent (State.Sound.setPort (k _ (h.wake _)) _)

theorem State.Sound.checked {n : Nat} {p : List Byte} {body : State → State × Response}
    (k : ∀ t : State, t.Sound → (body t).1.Sound) : ∀ t : State, t.Sound → (Machine.checked n p body t).1.Sound := by
  intro t ht
  unfold Machine.checked
  split
  · exact k t ht
  · exact ht

theorem State.Sound.field {α : Type} {x : Option α} {body : α → State → State × Response}
    (k : ∀ a, x = some a → ∀ t : State, t.Sound → (body a t).1.Sound) :
    ∀ t : State, t.Sound → (Machine.field x body t).1.Sound := by
  intro t ht
  unfold Machine.field
  split
  · exact k _ rfl t ht
  · exact ht

theorem State.Sound.expiry (h : s.Sound) (due : Option Nat) (f : State → State) (k : ∀ t : State, t.Sound → (f t).Sound) :
    (s.expiry due f).Sound := by
  unfold State.expiry
  split
  · exact h
  · exact State.Sound.finishEvent (k _ (h.reach _))

theorem State.Sound.event (h : s.Sound) (b : Bool) (f : State → State) (k : ∀ t : State, t.Sound → (f t).Sound) :
    (s.event b f).Sound := by
  unfold State.event
  split
  · exact State.Sound.finishEvent (k _ h)
  · exact h

/-! ## Commands with effects of several blocks -/

theorem Store.PoolOk.clearOverflow {st : Store} (h : st.PoolOk) : st.clearOverflow.PoolOk := { h with }

theorem State.Sound.clearCauses (h : s.Sound) (x : BitVec 10) : (s.clearCauses x).Sound := by
  unfold State.clearCauses
  simp only
  have h2 : (if namesCause x .recordError then
      (s.setPort { s.port with causes := s.port.causes &&& (~~~x ||| s.mon.lasting) }).setEngine
        { (s.setPort { s.port with causes := s.port.causes &&& (~~~x ||| s.mon.lasting) }).engine with counts := {} }
      else s.setPort { s.port with causes := s.port.causes &&& (~~~x ||| s.mon.lasting) }).Sound := by
    split
    · exact (h.setPort _).setEngine _
    · exact h.setPort _
  split
  · exact h2.setStore _ h2.pool.clearOverflow
  · exact h2

theorem State.Sound.resetUnit (h : s.Sound) (x : ResetScope) : (s.resetUnit x).Sound := by
  unfold State.resetUnit State.resetPrint State.resetKeyboard
  split
  · exact h.resetLine
  · exact h.keyReset
  · exact h.resetPrintPath.resetHead
  · exact State.Sound.clearCauses (((h.resetLine.keyReset.resetPrintPath.resetHead).setRtq _ (by simp)).setCrq _ (by simp)) _

/-! ## Writes to the Shared Store -/

theorem sum_set (l : List Nat) (i v : Nat) (h : i < l.length) : (l.set i v).sum + l[i] = l.sum + v := by
  induction l generalizing i with
  | nil => simp at h
  | cons a l ih =>
    cases i with
    | zero => simp; omega
    | succ i =>
      have := ih i (by simpa using h)
      simp
      omega

/-- The pool's total after one string is replaced (R84). -/
theorem poolTotal_set (st : Store) (n : Fin 12) (k : SoftKey) :
    { st with softKeys := st.softKeys.set n k : Store }.poolTotal + st.softKeys[n].string.length = st.poolTotal + k.string.length := by
  have h := sum_set (st.softKeys.toList.map fun k => k.string.length) n.val k.string.length (by simp)
  simp only [Store.poolTotal, Vector.toList_set, List.map_set]
  simpa using h

theorem Store.PoolOk.write {st : Store} (h : st.PoolOk) (w : StoreWrite) (f : st.fits w = true)
    (g : ∀ n k, w = .softKey n k → k.string.length ≤ 64) : (st.write w).PoolOk := by
  cases w with
  | route n e => exact { h with }
  | glyph n x => exact { h with }
  | energy n v => exact { h with }
  | softKey n k =>
    have hs := poolTotal_set st n k
    have hf : st.poolAfter n k.string.length ≤ 320 := of_decide_eq_true f
    have hl := g n k rfl
    constructor
    · show ({ st with softKeys := st.softKeys.set n k : Store }).poolTotal ≤ 320
      unfold Store.poolAfter at hf
      omega
    · intro m
      show (st.softKeys.set n k)[m].string.length ≤ 64
      simp only [Fin.getElem_fin, Vector.getElem_set]
      split
      · exact hl
      · exact h.each m

/-- A write that passed its checks carries a string of 64 codes at most (R81, R84). -/
theorem checkStore_string {p : List Byte} {n : Fin 12} {k : SoftKey} (h : checkStore p = .ok (.softKey n k)) :
    k.string.length ≤ 64 := by
  unfold checkStore at h
  repeat' split at h
  · cases h
  · unfold checkRoute at h
    repeat' split at h
    all_goals cases h
  · unfold checkSoftKey at h
    repeat' split at h
    · cases h
    · cases h
    · cases h
    · rename_i hlen
      simp only [StoreCheck.ok.injEq, StoreWrite.softKey.injEq] at h
      obtain ⟨-, rfl⟩ := h
      simp only [Config.stringCap] at hlen
      simp
      omega
  · unfold checkGlyph at h
    repeat' split at h
    all_goals cases h
  · unfold checkEnergy at h
    repeat' split at h
    all_goals cases h
  · cases h

theorem packQueue_suffix (n room : Nat) (es : List CrqEntry) : (packQueue n room es).2.length ≤ es.length := by
  induction n generalizing room es with
  | zero => exact Nat.le_refl _
  | succ n ih =>
    cases es with
    | nil => exact Nat.le_refl _
    | cons e rest =>
      unfold packQueue
      split
      · exact Nat.le_succ_of_le (ih _ _)
      · exact Nat.le_refl _

theorem Store.PoolOk.fresh : ({} : Store).PoolOk := ⟨by decide, by decide⟩

theorem State.Sound.powerOn (s : State) (paper lid : Bool) (supply : BitVec 16) (therm : Int) :
    (s.powerOn paper lid supply therm).Sound where
  rtq := by simp [State.powerOn, State.reset]
  crq := by simp [State.powerOn, State.reset]
  ttq := by simp [State.powerOn, State.reset]
  down := by simp [State.powerOn]
  events := by simp [State.powerOn]
  p0 := ⟨by simp [State.powerOn, State.reset], rfl⟩
  p1 := ⟨by simp [State.powerOn, State.reset], rfl⟩
  p2 := ⟨by simp [State.powerOn, State.reset], rfl⟩
  p3 := ⟨by simp [State.powerOn, State.reset], rfl⟩
  rows := by simp [State.powerOn, State.reset]
  pool := Store.PoolOk.fresh

end Sys2Proof.Machine
end

