-- ==== Sys2Proof/Laws/Wake.lean ====
section
/-!
SUPPORT. What the Monitor's operations and the wake can change: the CRQ, the Head Drive, the Monitor and the port, the wake also the two analogue inputs and the count of choices, and nothing else; so what a wake leaves of every other block.
-/

namespace Sys2Proof.Machine

/-- `b` is `a` but for the CRQ, the Head Drive, the Monitor and the Controller Port. -/
def State.Measured (a b : State) : Prop :=
  ∃ (c : List CrqEntry) (h : Head) (m : Monitor) (p : CtlPort), b = (((a.setCrq c).setHead h).setMon m).setPort p

theorem State.Measured.refl (s : State) : s.Measured s := ⟨_, _, _, _, rfl⟩

theorem State.Measured.trans {a b c : State} (h : a.Measured b) (k : b.Measured c) : a.Measured c := by
  obtain ⟨_, _, _, _, rfl⟩ := h
  obtain ⟨_, _, _, _, rfl⟩ := k
  exact ⟨_, _, _, _, rfl⟩

theorem State.Measured.measureInputs {a b : State} (h : a.Measured b) : a.measureInputs.Measured b.measureInputs := by
  obtain ⟨_, _, _, _, rfl⟩ := h
  exact ⟨_, _, _, _, rfl⟩

theorem measured_setMon (s : State) (m : Monitor) : s.Measured (s.setMon m) := ⟨s.crq, s.head, m, s.port, rfl⟩
theorem measured_setHead (s : State) (h : Head) : s.Measured (s.setHead h) := ⟨s.crq, h, s.mon, s.port, rfl⟩
theorem measured_raise (s : State) (c : Cause) : s.Measured (s.raise c) := ⟨s.crq, s.head, s.mon, (s.raise c).port, rfl⟩
theorem measured_moveHead (s : State) (x : HeadState) : s.Measured (s.moveHead x) :=
  ⟨s.crq, (s.moveHead x).head, (s.moveHead x).mon, s.port, rfl⟩
theorem measured_recomputeLimit (s : State) : s.Measured s.recomputeLimit := measured_setHead s _

theorem measured_post (s : State) (n : Notice) : s.Measured (s.post n) := by
  unfold State.post
  split
  · exact measured_raise s _
  · exact ⟨(s.pushCrq (.notice n)).crq, s.head, s.mon, s.port, rfl⟩

theorem measured_raiseIf (s : State) (b : Bool) (c : Cause) : s.Measured (s.raiseIf b c) := by
  unfold State.raiseIf
  split
  · exact measured_raise s c
  · exact .refl s

theorem measured_syncHolds (s : State) : s.Measured s.syncHolds := by
  unfold State.syncHolds
  repeat' split
  all_goals first
    | exact .refl s
    | exact measured_moveHead s _
    | exact (measured_setHead s _).trans (measured_moveHead _ _)

theorem measured_sampleSupply (s : State) : s.Measured s.sampleSupply :=
  (((measured_setMon s _).trans (measured_raiseIf _ _ _)).trans (measured_syncHolds _)).trans (measured_recomputeLimit _)

theorem measured_compareThermal (s : State) : s.Measured s.compareThermal :=
  ((measured_setMon s _).trans (measured_raiseIf _ _ _)).trans (measured_syncHolds _)

theorem measured_readThermistor (s : State) : s.Measured s.readThermistor := by
  unfold State.readThermistor
  dsimp only
  repeat' split
  · exact ((measured_setMon s _).trans (measured_compareThermal _)).trans (measured_recomputeLimit _)
  · exact (measured_setMon s _).trans (measured_compareThermal _)
  · exact measured_setMon s _
  · exact ((measured_setMon s _).trans (measured_raise _ _)).trans (measured_recomputeLimit _)

/-- A wake leaves the inputs as they are measured, and changes the CRQ, the Head Drive, the Monitor and the port, and no other block (R166). -/
theorem measured_wake_of_doze {s : State} (h : s.mon.power = .doze) (c : WakeCause) : s.measureInputs.Measured (s.wake c) := by
  unfold State.wake
  rw [h]
  exact (((measured_setMon s _).trans (measured_post _ _)).measureInputs.trans (measured_sampleSupply _)).trans
    (measured_readThermistor _)

/-- A wake changes the two analogue inputs, the count of choices, the CRQ, the Head Drive, the Monitor and the port, and no other block (R166). -/
theorem measured_wake (s : State) (c : WakeCause) : ∃ (v : BitVec 16) (r : Int) (n : Nat),
    ((s.setPins { s.pins with supply := v, therm := r }).setChoices n).Measured (s.wake c) := by
  cases h : s.mon.power with
  | run =>
    refine ⟨s.pins.supply, s.pins.therm, s.choices, ?_⟩
    unfold State.wake
    rw [h]
    exact .refl s
  | doze => exact ⟨_, _, _, measured_wake_of_doze h c⟩

section
variable (s : State) (c : WakeCause)
@[simp] theorem wake_now : (s.wake c).now = s.now := by obtain ⟨_, _, _, _, _, _, _, h⟩ := measured_wake s c; rw [h]; rfl
@[simp] theorem wake_carrier : (s.wake c).pins.carrier = s.pins.carrier := by
  obtain ⟨_, _, _, _, _, _, _, h⟩ := measured_wake s c; rw [h]; rfl
@[simp] theorem wake_paper : (s.wake c).pins.paper = s.pins.paper := by
  obtain ⟨_, _, _, _, _, _, _, h⟩ := measured_wake s c; rw [h]; rfl
@[simp] theorem wake_lid : (s.wake c).pins.lid = s.pins.lid := by
  obtain ⟨_, _, _, _, _, _, _, h⟩ := measured_wake s c; rw [h]; rfl
@[simp] theorem wake_line : (s.wake c).line = s.line := by obtain ⟨_, _, _, _, _, _, _, h⟩ := measured_wake s c; rw [h]; rfl
@[simp] theorem wake_engine : (s.wake c).engine = s.engine := by obtain ⟨_, _, _, _, _, _, _, h⟩ := measured_wake s c; rw [h]; rfl
@[simp] theorem wake_tx : (s.wake c).tx = s.tx := by obtain ⟨_, _, _, _, _, _, _, h⟩ := measured_wake s c; rw [h]; rfl
@[simp] theorem wake_store : (s.wake c).store = s.store := by obtain ⟨_, _, _, _, _, _, _, h⟩ := measured_wake s c; rw [h]; rfl
@[simp] theorem wake_rtq : (s.wake c).rtq = s.rtq := by obtain ⟨_, _, _, _, _, _, _, h⟩ := measured_wake s c; rw [h]; rfl
@[simp] theorem wake_arb : (s.wake c).arb = s.arb := by obtain ⟨_, _, _, _, _, _, _, h⟩ := measured_wake s c; rw [h]; rfl
@[simp] theorem wake_comp : (s.wake c).comp = s.comp := by obtain ⟨_, _, _, _, _, _, _, h⟩ := measured_wake s c; rw [h]; rfl
@[simp] theorem wake_pending : (s.wake c).pending = s.pending := by obtain ⟨_, _, _, _, _, _, _, h⟩ := measured_wake s c; rw [h]; rfl
end

/-- The power state is not the Monitor's samples' or readings' to change. -/
theorem syncHolds_power (s : State) : s.syncHolds.mon.power = s.mon.power := by
  unfold State.syncHolds
  repeat' split
  all_goals rfl

theorem raiseIf_mon (s : State) (b : Bool) (c : Cause) : (s.raiseIf b c).mon = s.mon := by
  unfold State.raiseIf
  split <;> rfl

theorem post_mon (s : State) (n : Notice) : (s.post n).mon = s.mon := by
  unfold State.post
  split <;> rfl

theorem sampleSupply_power (s : State) : s.sampleSupply.mon.power = s.mon.power := by
  show (State.syncHolds _).mon.power = _
  rw [syncHolds_power, raiseIf_mon]
  rfl

theorem compareThermal_power (s : State) : s.compareThermal.mon.power = s.mon.power := by
  show (State.syncHolds _).mon.power = _
  rw [syncHolds_power, raiseIf_mon]
  rfl

theorem readThermistor_power (s : State) : s.readThermistor.mon.power = s.mon.power := by
  unfold State.readThermistor
  dsimp only
  repeat' split
  · exact (compareThermal_power _).trans rfl
  · exact (compareThermal_power _).trans rfl
  · rfl
  · rfl

/-- A wake leaves the part in Run (R166). -/
@[simp] theorem wake_power (s : State) (c : WakeCause) : (s.wake c).mon.power = .run := by
  unfold State.wake
  split
  · assumption
  · rw [readThermistor_power, sampleSupply_power]
    exact congrArg Monitor.power (post_mon _ _)

/-! ## The response buffer (R166, R168) -/

@[simp] theorem raiseIf_response (s : State) (b : Bool) (c : Cause) : (s.raiseIf b c).port.response = s.port.response := by
  unfold State.raiseIf
  split <;> rfl

@[simp] theorem post_response (s : State) (n : Notice) : (s.post n).port.response = s.port.response := by
  unfold State.post
  split <;> rfl

@[simp] theorem syncHolds_port (s : State) : s.syncHolds.port = s.port := by
  unfold State.syncHolds
  repeat' split
  all_goals rfl

@[simp] theorem sampleSupply_response (s : State) : s.sampleSupply.port.response = s.port.response := by
  show (State.syncHolds _).port.response = _
  rw [syncHolds_port, raiseIf_response]
  rfl

@[simp] theorem compareThermal_response (s : State) : s.compareThermal.port.response = s.port.response := by
  show (State.syncHolds _).port.response = _
  rw [syncHolds_port, raiseIf_response]
  rfl

@[simp] theorem readThermistor_response (s : State) : s.readThermistor.port.response = s.port.response := by
  unfold State.readThermistor
  dsimp only
  repeat' split
  · exact (compareThermal_response _).trans rfl
  · exact (compareThermal_response _).trans rfl
  · rfl
  · rfl

/-- A wake has no response of its own (R166). -/
@[simp] theorem wake_response (s : State) (c : WakeCause) : (s.wake c).port.response = s.port.response := by
  unfold State.wake
  split
  · rfl
  · rw [readThermistor_response, sampleSupply_response]
    exact post_response _ _

end Sys2Proof.Machine
end

