-- ==== Sys2Proof/WellFormed.lean ====
section
/-!
DEFINITION. Which commands the outside can send: a controller command's payload is no longer than a length byte can declare. Every list of bytes is a selection.
The meanings are total: they do not rest on these checks.
-/

namespace Sys2Proof

/-- A payload a length byte can declare (section 12.4). -/
def payloadOk (payload : List Byte) : Bool := payload.length ≤ 255

/-- The checks on a command. -/
def Instr.wellFormed : Instr → Bool
  | .powerOn _ _ _ _ => true
  | .shortSelection _ => true
  | .noneCommand p | .configLine p | .lineOn p | .lineOff p | .setFilter p | .setMask p | .setDefaultAction p
  | .configFlow p | .loadSlot p | .requestSlot p | .abortSlot p | .sendText p | .sendBreak p | .writeStore p
  | .readStore p | .setRemoteMask p | .configKeyboard p | .writeKeymap p | .readKeymap p | .print p | .cancelJob p
  | .pausePrint p | .resumePrint p | .configPrint p | .readQueue p | .readStatus p | .clearCauses p
  | .setAttnMask p | .resetUnit p | .doze p => payloadOk p
  | .carrierAppears | .carrierEnds | .qualifyTimeExpiry | .qualifyDropoutExpiry | .lossDelayExpiry | .fadeReturn
  | .fadeDropExpiry | .ta1200DropExpiry | .turnaroundGapExpiry | .leadInEnd | .talkLimitExpiry | .tailEnd => true
  | .characterReceived _ _ _ _ | .breakDetected | .heldCharacterRelease | .gapTimerExpiry | .replyReady
  | .transmitItemEnd | .breakEnd => true
  | .scan _ | .repeatTimerExpiry | .partialLineExpiry _ | .jobStallExpiry | .phaseEnd | .rowPeriodEnd
  | .settleExpiry | .sensorInputChange _ _ | .sensorStableExpiry _ | .supplySample _ | .thermistorReading _ => true

end Sys2Proof
end

