-- ==== Sys2Proof/Tests/Slice0.lean ====
section
/-!
SUPPORT. Tests of the model on small states: the checks of WellFormed, one or two steps' worth of each command taken from the spec's rules and worked sequences, and witnesses that the hypotheses of every statement of Obligations.lean are met.
-/

namespace Sys2Proof.Tests
open Sys2Proof Sys2Proof.Machine Sys2Proof.Laws

set_option Elab.async false

/-! ## States -/

/-- The command answers a next state of which `p` is true. -/
def ans (c : Instr) (s : State) (p : State → Bool) : Bool :=
  match exec c s with
  | .next t => p t
  | .fault _ => false
  | .refused _ => false

def base : State := State.reset

/-- The part in Doze. -/
def dozing : State := base.setMon { base.mon with power := .doze }

/-- A line state with its speed, direction and timers. -/
def lineIn (st : LineState) (sp : Speed) (d : Option Direction) (tm : LineTimers) : State :=
  base.setLine { state := st, direction := d, timers := tm, settings := { speed := sp } }

def online300 : State := lineIn .online .sb300 none {}
def online1200 (d : Direction) (tm : LineTimers) : State := lineIn .online .ta1200 (some d) tm

def withCarrier (s : State) : State := s.setPins { s.pins with carrier := true }

/-- SB300 ONLINE in 8N1, in a reception state with a record. -/
def receiving (x : RxState) (r : Assembly) : State := online300.setEngine { rx := x, record := r, gap := some 0 }

/-- SB300 ONLINE with a transmission in progress. -/
def sending (p : Progress) : State := online300.setTx { progress := p }

/-- A slot state in slot 2. -/
def slot2 (x : SlotState) : State := base.setTx { slots := (Vector.replicate 4 {}).set 2 { state := x } }

/-- Printing paused. -/
def paused : State := base.setArb { pause := true }

/-- A job of P2 whose JobStart was granted: the Hold is P2's, with these cells and this stall timer. -/
def held (cells : List PortCell) (stall : Option Nat) : State :=
  base.setArb { hold := some .p2, job2 := .opened, pause := true, stall := stall
                p2 := { cells := cells, admitted := cells.length + 1, composed := 1 } }

def cell (c : Byte) : PortCell := { body := .char c .normal, entered := 0 }

/-- A full CRQ. -/
def fullCrq : List CrqEntry := List.replicate 64 (.notice .brk)

/-- A held key's event with the dispatch blocked by a full CRQ. -/
def waiting (n : Nat) : List KeyEvent := List.replicate n { key := 0, layer := .plain, kind := .press }

/-! ## WellFormed -/

theorem test_wellFormed_ok : (Instr.print [0, 0, 0x41]).wellFormed = true := by decide +kernel
theorem test_wellFormed_refuses_payload_above_255 :
    (Instr.print (List.replicate 256 0)).wellFormed = false := by decide +kernel
theorem test_wellFormed_every_selection :
    (Instr.shortSelection []).wellFormed && (Instr.shortSelection [0x1A, 1]).wellFormed
      && (Instr.shortSelection [0x02, 0x00]).wellFormed && (Instr.shortSelection [0x1E, 0]).wellFormed = true := by decide +kernel
theorem test_no_word_spells_a_command : decodeTableWord 16 0 = none ∧ base.withFetchWord 16 0 = base :=
  ⟨rfl, rfl⟩

/-! ## Steps -/

theorem test_step_takes_front : step (base.setPending [.lineOn [], .doze []]) = exec (.lineOn []) (base.setPending [.doze []]) := rfl

/-- StepOnEmptyQueue: no own timer due, one due, two due at one moment, and two at moments the clock has passed both: the earlier. -/
theorem witness_StepOnEmptyQueue :
    base.pending = [] ∧ base.ready = []
    ∧ ((lineIn .qualify .sb300 none { qualify := some 0 }).setNow 1200000).ready = [.qualify]
    ∧ ((base.setMon { base.mon with paper := { value := true, stable := some 0 }, lid := { value := true, stable := some 0 } }).setNow
        60000).ready = [.paper, .lid]
    ∧ ((base.setMon { base.mon with paper := { value := true, stable := some 0 }, lid := { value := true, stable := some 1 } }).setNow
        60005).ready = [.paper] := by decide +kernel

/-! ## Power-on and the Controller Port -/

/-- PowerOnReadings: thermistor readings at the ends of the valid range and past them, a supply on either side of 560. -/
theorem witness_PowerOnReadings :
    (-30 ≤ (-30 : Int) ∧ (-30 : Int) ≤ 100) ∧ (-30 ≤ (100 : Int) ∧ (100 : Int) ≤ 100) ∧ (-31 : Int) < -30 ∧ 100 < (101 : Int)
    ∧ (559#16).toNat < 560 ∧ ¬ (560#16).toNat < 560 := by decide +kernel

theorem test_powerOn_open_lid_low_supply : ans (.powerOn true false 500 (-40)) online300 (fun t =>
    t.head.state == .hold && t.port.causes == 0x380#10 && t.head.limit == 48 && t.line.state == .off
      && t.mon.temp == 25 && t.mon.fallback) = true := by decide +kernel
theorem test_powerOn_hot_head : ans (.powerOn true true 720 66) base (fun t =>
    t.head.state == .hold && t.port.causes == 0x40#10 && t.mon.temp == 66) = true := by decide +kernel

theorem test_shortSelection : ans (.shortSelection [0x1A, 1]) dozing (fun t =>
    t.port.response == { result := .badField } && t.mon.power == .doze) = true := by decide +kernel
theorem test_unknownSelection : ans (.shortSelection [0x1E, 1, 7]) base (fun t =>
    t.port.response == { result := .unknown }) = true := by decide +kernel
/-- The selection 02h, 00h is LINE ON; 0Bh, 01h, 41h is SEND TEXT of one character, a byte beyond its length ignored (section 12.4). -/
theorem test_selection_of_a_command :
    ans (.shortSelection [0x02, 0x00]) base (fun t => t.line.state == .listen && t.port.response == { result := .done })
      && ans (.shortSelection [0x0B, 0x01, 0x41, 0x42]) base (fun t => t.tx.ttq == [0x41]) = true := by decide +kernel

/-- What a wake samples is free, so the kernel cannot run past it: the state after is known by the laws. -/
theorem test_none_wakes_a_dozing_part : ∃ t, exec (.noneCommand [1, 2]) dozing = .next t
    ∧ t.port.response = dozing.port.response ∧ t.mon.power = .run := by
  have kept := kept_finishEvent (dozing.wake .command)
  exact ⟨_, rfl, kept.response.trans (wake_response _ _), (congrArg Monitor.power kept.monitor).trans (wake_power _ _)⟩

/-- SelectionsAreAnswered: no byte, a code without its length, a payload cut short, a complete selection of a command with a byte beyond its length, and one at the first free code. -/
theorem witness_SelectionsAreAnswered :
    ([] : List Byte).length < 2 ∧ [(0x1A : Byte)].length < 2 ∧ ([] : List Byte).length < (1 : Byte).toNat
    ∧ (1 : Byte).toNat ≤ [(0x41 : Byte), 0x42].length
    ∧ (controllerCommands ([(0x41 : Byte), 0x42].take (1 : Byte).toNat))[(0x0B : Byte).toNat]? = some (.sendText [0x41])
    ∧ (0 : Byte).toNat ≤ ([] : List Byte).length ∧ 0x1E ≤ (0x1E : Byte).toNat := by decide +kernel

/-- A response shifted out: result, length, payload, then 00h (R168); the code of NONE with a declared length that does not come (log 35). -/
theorem test_response_is_shifted_out :
    (List.range 6).map ({ result := .done, payload := [7, 8] } : Response).shiftOut = [0, 2, 7, 8, 0, 0]
    ∧ ans (.shortSelection [0x00, 2, 5]) dozing (fun t => t.port.response == { result := .badField } && t.mon.power == .doze) = true := by
  decide +kernel
theorem witness_SelectionsAreAnswered_shift :
    [(7 : Byte), 8][1]? = some 8 ∧ [(7 : Byte), 8].length ≤ 2 := by decide +kernel

/-- TakenCommandWakes: Run, Doze with room in the CRQ, Doze with a full one, each hold in force and not. -/
theorem witness_TakenCommandWakes :
    base.mon.power = .run ∧ dozing.mon.power = .doze ∧ dozing.crq.length < 64
    ∧ (dozing.setCrq fullCrq).mon.power = .doze ∧ 64 ≤ (dozing.setCrq fullCrq).crq.length
    ∧ dozing.mon.supplyHold = false ∧ dozing.mon.thermalHold = false
    ∧ (dozing.setMon { dozing.mon with supplyHold := true, thermalHold := true }).mon.power = .doze
    ∧ (dozing.setMon { dozing.mon with supplyHold := true, thermalHold := true }).mon.supplyHold = true
    ∧ (dozing.setMon { dozing.mon with supplyHold := true, thermalHold := true }).mon.thermalHold = true
    ∧ .lineOn [] ∈ controllerCommands [] ∧ Instr.lineOn [] ≠ .doze [] := by decide +kernel

/-- WrongLengthIsBadField: one byte more than 72, and one byte less than the fixed fields. -/
theorem witness_WrongLengthIsBadField :
    (Instr.lineOn (List.replicate 73 0), 0) ∈ fixedFields (List.replicate 73 0) ∧ 72 < (List.replicate 73 (0 : Byte)).length
    ∧ (Instr.configLine (List.replicate 15 0), 16) ∈ fixedFields (List.replicate 15 0)
    ∧ (List.replicate 15 (0 : Byte)).length < 16 := by decide +kernel
theorem test_wrong_length : ans (.lineOn (List.replicate 73 0)) base (fun t =>
    t.port.response == { result := .badField } && t.line.state == .off) = true := by decide +kernel

/-- Section 11.10, selection 1: count 2 of three entries. -/
theorem test_readQueue : ans (.readQueue [2]) (online300.setCrq
      [.notice (.lineState .online .sb300), .character 2 0x41 true, .notice (.slotDone 0 .sent)]) (fun t =>
    t.port.response == { result := .done, payload := [4, 1, 2, 3, 0, 1, 0x82, 0x41] }
      && t.crq == [.notice (.slotDone 0 .sent)] && t.attn) = true := by decide +kernel
/-- A count of 0 is taken as 1, and one above 8 as 8; a long message leaves no room for a second. -/
theorem test_readQueue_bounds :
    ans (.readQueue [0]) (base.setCrq fullCrq) (fun t => t.crq.length == 63)
      && ans (.readQueue [200]) (base.setCrq fullCrq) (fun t => t.crq.length == 56)
      && ans (.readQueue [8]) (base.setCrq (List.replicate 2 (.message 0 (List.replicate 48 0)))) (fun t => t.crq.length == 1)
      = true := by decide +kernel
theorem witness_ReadQueueRemovesWholeEntries : 1 ≤ [(8 : Byte)].length ∧ [(8 : Byte)].length ≤ 72 := by decide +kernel

/-- Section 12.5: a character marked as substituted on route 15, a message of two bytes, and each kind of notice. -/
theorem test_entries_are_encoded :
    [CrqEntry.character 15 0x41 true, .message 8 [1, 2], .key 95 .function].flatMap CrqEntry.encode
      = [1, 0x8F, 0x41, 3, 8, 2, 1, 2, 2, 95, 3]
    ∧ [Notice.lineState .fade .ta1200, .slotDone 3 .lineLost, .jobEvent .p3 .cancelled, .recordAccepted 6 15 8, .storeWritten 4 15,
        .brk, .keyAttention 95 .control, .wake .command].map (fun n => (CrqEntry.notice n).encode)
      = [[4, 1, 2, 4, 1], [4, 2, 2, 3, 3], [4, 3, 2, 3, 4], [4, 4, 3, 6, 15, 8], [4, 5, 2, 4, 15], [4, 6, 0], [4, 7, 2, 95, 2],
         [4, 8, 1, 2]] := by decide +kernel

theorem test_readStatus : ans (.readStatus []) base (fun t => t.port.response == { result := .done, payload :=
    [0, 0, 0, 0, 0, 0, 0, 0, 0, 0, 0, 6, 0xD0, 2, 25, 0, 0, 0, 0, 0, 0, 0, 0] }) = true := by decide +kernel

/-- ReadStatusReports: a direction state with a meaning and without, a line in composition, each holding port. -/
theorem witness_ReadStatusReports :
    (online1200 .releasing {}).line.directionCode = 3 ∧ (lineIn .listen .ta1200 none {}).line.directionCode = 0
    ∧ (lineIn .online .sb300 (some .talking) {}).line.directionCode = 0
    ∧ base.comp.grantCode = 0 ∧ (base.setComp { line := some { port := .p3, entries := [], jobEnd := false } }).comp.grantCode = 4
    ∧ base.arb.holdCode = 0 ∧ (base.setArb { hold := some .p2 }).arb.holdCode = 2
    ∧ (base.setArb { hold := some .p3 }).arb.holdCode = 3 := by decide +kernel

/-- Section 11.10, selection 6: the lid is open, so Paper Hold stays; Record Error clears the counts, Route Overflow the flags. -/
theorem test_clearCauses : ans (.clearCauses [0x30, 0x01])
    (((base.setMon { base.mon with lid := { value := false } }).setPort { causes := 0x13A#10 }).setEngine
      { counts := { crc := 7 } }) (fun t =>
    t.port.response == { result := .done, payload := [0x0A, 0x01] } && t.engine.counts == {}) = true := by decide +kernel
theorem test_clearCauses_bad : ans (.clearCauses [0, 4]) (base.setPort { causes := 1 }) (fun t =>
    t.port.response == { result := .badField } && t.port.causes == 1) = true := by decide +kernel
/-- ClearCausesKeepsLasting and AttnFollowsMask: the sets on either side of the ten causes. -/
theorem witness_ClearCausesKeepsLasting :
    1024 ≤ wordAt [0, 4] 0 ∧ wordAt [0xFF, 3] 0 < 1024 ∧ 2 ≤ ([0, 4] : List Byte).length ∧ ([0, 4] : List Byte).length ≤ 72 := by
  decide +kernel

theorem test_setAttnMask : ans (.setAttnMask [0x08, 0]) (base.setPort { causes := 8 }) (fun t =>
    t.port.mask == 8 && !t.attn && t.port.response == { result := .done, payload := [8, 0] }) = true := by decide +kernel
theorem test_attn_of_an_unmasked_cause : (base.setPort { causes := 8 }).attn = true := by decide +kernel

theorem test_resetUnit_line : ans (.resetUnit [0]) (lineIn .fade .sb300 none { drop := some 5 }) (fun t =>
    t.line.state == .off && t.line.timers == {} && t.port.response == { result := .done }) = true := by decide +kernel
theorem test_resetUnit_bad : ans (.resetUnit [4]) online300 (fun t =>
    t.line.state == .online && t.port.response == { result := .badField }) = true := by decide +kernel
/-- A Feed Run's row under way. -/
def advancing : State := base.setHead { state := .advancing, inHand := .feed 3 }
/-- A job of P3 that is OPEN, its queue with this many cells. -/
def openP3 (n : Nat) : State := base.setArb { job3 := .opened, p3 := { cells := List.replicate n (cell 0x20), admitted := n } }
/-- ResetUnitScopes: each scope; slots in each kind of state; P3 with an open job, with room and without, and without one; room in the CRQ and none; the Head Drive at rest, FIRING, and ADVANCING with a Feed Run and with a dot row. -/
theorem witness_ResetUnitScopes :
    byteAt [0] 0 = 0 ∧ byteAt [1] 0 = 1 ∧ byteAt [2] 0 = 2 ∧ byteAt [3] 0 = 3 ∧ 4 ≤ (byteAt [4] 0).toNat
    ∧ (slot2 .requested).tx.slots[2].state = .requested ∧ (slot2 .sending).tx.slots[2].state = .sending
    ∧ (slot2 .loaded).tx.slots[2].state ≠ .requested ∧ (slot2 .loaded).tx.slots[2].state ≠ .sending
    ∧ base.head.state = .idle ∧ base.arb.job3 ≠ .opened := by decide +kernel
theorem witness_ResetUnitScopes_jobs :
    (openP3 95).arb.job3 = .opened ∧ (openP3 95).arb.p3.cells.length < 96 ∧ (openP3 96).arb.job3 = .opened
    ∧ 96 ≤ (openP3 96).arb.p3.cells.length ∧ (openP3 96).crq.length < 64
    ∧ ((openP3 96).setCrq fullCrq).arb.job3 = .opened ∧ 64 ≤ ((openP3 96).setCrq fullCrq).crq.length := by decide +kernel
theorem witness_ResetUnitScopes_head :
    (base.setHead { state := .firing }).head.state = .firing ∧ advancing.head.state = .advancing ∧ advancing.head.inHand = .feed 3
    ∧ (advancing.setHead { advancing.head with inHand := .dots 1 }).head.state = .advancing :=
  ⟨rfl, rfl, rfl, rfl⟩
theorem test_resetUnit_line_ends_the_job : ans (.resetUnit [0]) ((openP3 3).setArb { (openP3 3).arb with pause := true }) (fun t =>
    t.arb.job3 == .none && t.arb.p3.cells.length == 4 && t.port.causes == 4
      && t.crq == [.notice (.jobEvent .p3 .missingLast)]) = true := by decide +kernel

theorem test_doze : ans (.doze []) base (fun t => t.mon.power == .doze && t.port.response == { result := .done }) = true := by
  decide +kernel
theorem test_doze_busy : ans (.doze []) online300 (fun t =>
    t.mon.power == .run && t.port.response == { result := .busy }) = true := by decide +kernel
/-- DozeEntered: the conditions hold in one state and fail in another. -/
theorem witness_DozeEntered :
    base.head.state = .idle ∧ (∀ q : PortId, (base.arb.port q).cells = []) ∧ base.comp.rows = [] ∧ base.comp.line = none
    ∧ base.line.state = .off ∧ online300.line.state ≠ .off ∧ online300.line.state ≠ .listen :=
  ⟨rfl, fun q => by cases q <;> rfl, rfl, rfl, rfl, by decide +kernel, by decide +kernel⟩

/-! ## Follow-ups -/

/-- One cell in the RTQ for a route without sinks, and one key event whose entry is None: which is taken first is free. -/
def twoTakes : State := (base.setRtq [{ code := 1, route := 3, substituted := false }]).setKeys { keymap := [(0, .none)], events := waiting 1 }
/-- FollowUpsEndTheEvent: a state for each kind of follow-up and one where none is left; and a command that completes. -/
theorem witness_FollowUpsEndTheEvent :
    (online300.setTx { ttq := [1] }).txAct = some (.choose .text) ∧ base.txAct = none
    ∧ ((base.setComp { rows := [.feed 1] }).head.state = .idle ∧ (base.setComp { rows := [.feed 1] }).mon.anyHold = false
      ∧ (base.setComp { rows := [.feed 1] }).headWork = true) ∧ base.headWork = false
    ∧ (base.setComp { line := some { port := .p0, entries := [.feed 1], jobEnd := false } }).comp.canAppend = true
    ∧ (base.setComp { line := some { port := .p0, entries := [], jobEnd := false } }).comp.canFinish = true
    ∧ (base.setArb { p0 := { cells := [cell 0x0A] } }).grantChoice = some .p0 ∧ base.grantChoice = none
    ∧ twoTakes.routeTakes = true ∧ twoTakes.dispatchTakes = true
    ∧ (twoTakes.setRtq []).routeTakes = false ∧ (twoTakes.setKeys {}).dispatchTakes = false
    ∧ base.nextAction = none ∧ (online300.setTx { ttq := [1] }).nextAction = some (.transmit (.choose .text)) := by decide +kernel
theorem witness_FollowUpsEndTheEvent_completes : Completes (.noneCommand []) base (base.wake .command) :=
  ⟨_, rfl, rfl, kept_finishEvent _, fun _ => rfl⟩

/-! ## The line -/

theorem test_configLine : ans (.configLine [1, 0, 2, 30, 15, 0x3F, 0xC1, 1, 0, 0, 0xFF, 0xFF, 19, 0, 0xE7, 3]) base (fun t =>
    t.line.settings == { speed := .ta1200, role := .originate, format := .f7O1, station := 30, textRoute := 15
                         substitute := 0x3F, qualifyMs := 400, lossMs := 10, dropMs := 6400, gapMs := 20, talkMs := 500 }
      && t.port.response == { result := .done }) = true := by decide +kernel
theorem test_configLine_refusals :
    ans (.configLine (List.replicate 16 0)) online300 (fun t => t.port.response == { result := .busy })
      && ans (.configLine [0, 0, 0, 31, 0, 0, 0, 0, 0, 0, 0, 0, 0, 0, 0, 0]) base
        (fun t => t.port.response == { result := .badField } && t.line.settings == {}) = true := by decide +kernel
/-- ConfigLineWrites: each field one past its range, and each at its last value. -/
theorem witness_ConfigLineWrites :
    2 ≤ (byteAt [2] 0).toNat ∧ 31 ≤ (byteAt [0, 0, 0, 31] 3).toNat ∧ 16 ≤ (byteAt [0, 0, 0, 0, 16] 4).toNat
    ∧ speed? 1 = some .ta1200 ∧ role? 1 = some .answer ∧ format? 2 = some .f7O1 ∧ (fin? 31 30).isSome ∧ (fin? 16 15).isSome
    ∧ base.line.state = .off ∧ online300.line.state ≠ .off ∧ (List.replicate 16 (0 : Byte)).length = 16 := by decide +kernel

theorem test_lineOn_listens : ans (.lineOn []) base (fun t => t.line.state == .listen) = true := by decide +kernel
theorem test_lineOn_qualifies : ans (.lineOn []) (withCarrier base) (fun t =>
    t.line.state == .qualify && t.line.timers == { qualify := some 0 }) = true := by decide +kernel
/-- LineOnAndOffMoveTheLine: OFF with and without the carrier, and a line that is not OFF. -/
theorem witness_LineOnAndOffMoveTheLine :
    base.line.state = .off ∧ base.pins.carrier = false ∧ (withCarrier base).line.state = .off
    ∧ (withCarrier base).pins.carrier = true ∧ online300.line.state ≠ .off := by decide +kernel

/-- LINE OFF with slot 2 SENDING and a job of P3 open: Slot Done, then Missing Last, then Line State (R11, R126). -/
theorem test_lineOff : ans (.lineOff []) ((online300.setTx
      { slots := (Vector.replicate 4 {}).set 2 { state := .sending }, ttq := [0x41] }).setArb { job3 := .opened, pause := true }) (fun t =>
    t.line.state == .off && t.tx.ttq == [0x41] && t.tx.slots[2].state == .aborted
      && t.crq == [.notice (.slotDone 2 .lineLost), .notice (.jobEvent .p3 .missingLast), .notice (.lineState .off .sb300)])
    = true := by decide +kernel
/-- LineOnAndOffMoveTheLine, the end of a connection: one slot SENDING, none SENDING; an open job with room in P3 and without; room for the notices. -/
theorem witness_LineOnAndOffMoveTheLine_end :
    (slot2 .sending).tx.slots[2].state = .sending ∧ (∀ m : Fin 4, m ≠ 2 → (slot2 .sending).tx.slots[m].state ≠ .sending)
    ∧ (∀ m : Fin 4, base.tx.slots[m].state ≠ .sending) ∧ (slot2 .sending).crq.length ≤ 62
    ∧ (base.setArb { job3 := .opened }).arb.job3 = .opened ∧ (base.setArb { job3 := .opened }).arb.p3.cells.length < 96
    ∧ 96 ≤ (base.setArb { job3 := .opened, p3 := { cells := List.replicate 96 (cell 0x20) } }).arb.p3.cells.length
    ∧ base.arb.job3 ≠ .opened := by decide +kernel

/-- LineOnAndOffMoveTheLine, notices: the last free place of the CRQ and a full one, with a slot SENDING, with none, with an open job and without. -/
theorem witness_LineOnAndOffMoveTheLine_full :
    let s := (slot2 .sending).setArb { job3 := .opened }
    (s.setCrq (fullCrq.drop 1)).crq.length = 63 ∧ 64 ≤ (s.setCrq fullCrq).crq.length
    ∧ (s.setCrq (fullCrq.drop 1)).endConnection.crq = fullCrq.drop 1 ++ [.notice (.slotDone 2 .lineLost)]
    ∧ (s.setCrq (fullCrq.drop 1)).endConnection.port.causes = 6
    ∧ (s.setCrq fullCrq).endConnection.crq = fullCrq ∧ (s.setCrq fullCrq).endConnection.port.causes = 6
    ∧ ((base.setArb { job3 := .opened }).setCrq (fullCrq.drop 1)).endConnection.port.causes = 4
    ∧ ((slot2 .sending).setCrq fullCrq).endConnection.port.causes = 2 ∧ (base.setCrq fullCrq).endConnection.port.causes = 0
    ∧ Cause.jobError ≠ .noticeLost ∧ Cause.lineLost ≠ .jobError := by decide +kernel

theorem test_setFilter : ans (.setFilter [7, 1, 2, 15, 3, 3, 1, 1]) base (fun t =>
    t.engine.filters[7] == { enable := true, kind := 2, route := 15, segment := 3, mask := 3, action := .accept, report := true }
      && t.port.response == { result := .done }) = true := by decide +kernel
theorem test_setFilter_order :
    ans (.setFilter [8, 0, 0, 0, 0, 0, 0, 0]) online300 (fun t => t.port.response == { result := .badField })
      && ans (.setFilter [0, 9, 0, 0, 0, 0, 0, 0]) online300 (fun t => t.port.response == { result := .busy })
      && ans (.setFilter [0, 0, 8, 0, 0, 0, 0, 0]) base (fun t => t.port.response == { result := .badField }) = true := by
  decide +kernel
theorem test_setMask : ans (.setMask [3, 7, 15, 3]) base (fun t =>
    t.engine.masks[3] == { kind := 7, route := 15, segment := 3 }) = true := by decide +kernel
theorem test_setDefaultAction : ans (.setDefaultAction [1, 1]) online300 (fun t =>
    t.engine.default == { action := .accept, report := true } && t.port.response == { result := .done }) = true := by decide +kernel
/-- FiltersAreWritten: a number past its range; a number in it with the line open and closed; fields past and at their ranges. -/
theorem witness_FiltersAreWritten :
    8 ≤ (8 : Byte).toNat ∧ (fin? 8 7).isSome ∧ (fin? 4 3).isSome ∧ base.line.state = .off
    ∧ ¬ (online300.line.state = .off ∨ online300.line.state = .listen) ∧ flag? 1 = some true
    ∧ filterAction? 1 = some .accept ∧ 2 ≤ (2 : Byte).toNat ∧ (7 : Byte).toNat < 8 ∧ (15 : Byte).toNat < 16 ∧ (3 : Byte).toNat < 4 := by
  decide +kernel

theorem test_carrierAppears_listen : ans .carrierAppears (lineIn .listen .sb300 none {}) (fun t =>
    t.line.state == .qualify && t.line.timers == { qualify := some 0 } && t.crq == []) = true := by decide +kernel
def dozingListen : State := (lineIn .listen .sb300 none {}).setMon dozing.mon
theorem test_carrier_wakes_a_dozing_part : ∃ t, exec .carrierAppears dozingListen = .next t
    ∧ t.line.state = .qualify ∧ t.mon.power = .run := by
  have kept := kept_finishEvent (dozingListen.setCarrier true).carrierOn
  have wakes : (dozingListen.setCarrier true).carrierOn
      = ((dozingListen.setCarrier true).setLine { dozingListen.line with state := .qualify, timers := { qualify := some 0 } }).wake
        .carrier := rfl
  rw [wakes] at kept
  exact ⟨_, rfl, kept.lineState.trans (congrArg Line.state (wake_line _ _)),
    (congrArg Monitor.power kept.monitor).trans (wake_power _ _)⟩
/-- A collision (R18). -/
theorem test_carrierAppears_collision : ans .carrierAppears (online1200 .taking { leadIn := some 0 }) (fun t =>
    t.line.direction == some .listening && t.line.collisions == 1 && t.line.timers == {}) = true := by decide +kernel
theorem test_carrierEnds : ans .carrierEnds (withCarrier online300) (fun t => t.line.timers == { loss := some 0 })
      && ans .carrierEnds (withCarrier (online1200 .listening {})) (fun t => t.line.timers == { gap := some 0, drop := some 0 })
      && ans .carrierEnds base (fun t => t == base) = true := by decide +kernel
/-- CarrierMovesTheLine: every line state and every direction state, with the carrier and without. -/
theorem witness_CarrierMovesTheLine :
    (∀ st ∈ [LineState.off, .listen, .qualify, .online, .fade], (lineIn st .sb300 none {}).line.state = st
      ∧ (lineIn st .sb300 none {}).pins.carrier = false ∧ (withCarrier (lineIn st .sb300 none {})).pins.carrier = true)
    ∧ (∀ d ∈ [Direction.listening, .taking, .talking, .releasing], (online1200 d {}).line.state = .online
      ∧ (online1200 d {}).line.settings.speed = .ta1200 ∧ (online1200 d {}).line.direction = some d) := by decide +kernel

/-- The tones of R1: Answer sends in every state but OFF, Originate in ONLINE and FADE, TA1200 in three direction states. -/
theorem test_own_carrier :
    ([LineState.off, .listen, .qualify, .online, .fade].map fun x =>
        ({ state := x, settings := { role := .answer } } : Line).ownCarrier) = [false, true, true, true, true]
    ∧ ([LineState.off, .listen, .qualify, .online, .fade].map fun x => ({ state := x } : Line).ownCarrier)
      = [false, false, false, true, true]
    ∧ ([Direction.listening, .taking, .talking, .releasing].map fun d => (online1200 d {}).line.ownCarrier)
      = [false, true, true, true] := by decide +kernel

theorem test_qualifyTimeExpiry : ans .qualifyTimeExpiry (withCarrier (lineIn .qualify .sb300 none { qualify := some 0 })) (fun t =>
    t.line.state == .online && t.now == 1200000 && t.line.timers == {} && t.crq == [.notice (.lineState .online .sb300)]) = true := by
  decide +kernel
theorem test_qualifyTimeExpiry_ta1200 : ans .qualifyTimeExpiry (lineIn .qualify .ta1200 none { qualify := some 0 }) (fun t =>
    t.line.direction == some .listening && t.line.timers == { gap := some 1200000, drop := some 1200000 }) = true := by
  decide +kernel
theorem test_qualifyDropoutExpiry : ans .qualifyDropoutExpiry
    (lineIn .qualify .sb300 none { qualify := some 0, dropout := some 3000 }) (fun t =>
    t.line.state == .listen && t.line.timers == {} && t.now == 63000) = true := by decide +kernel
/-- Section 1.8: the carrier is gone for 60 ms, then back for 20 ms. -/
theorem test_lossDelayExpiry : ans .lossDelayExpiry (lineIn .online .sb300 none { loss := some 0 }) (fun t =>
    t.line.state == .fade && t.line.timers == { drop := some 180000 } && t.crq == [.notice (.lineState .fade .sb300)]) = true := by
  decide +kernel
theorem test_fadeReturn : ans .fadeReturn (withCarrier (lineIn .fade .sb300 none { back := some 0 })) (fun t =>
    t.line.state == .online && t.line.timers == {} && t.now == 60000) = true := by decide +kernel
/-- CarrierTimersMoveTheLine: each line state with its timer running. -/
theorem witness_CarrierTimersMoveTheLine :
    (lineIn .qualify .sb300 none { qualify := some 0 }).line.timers.qualify = some 0
    ∧ (lineIn .qualify .ta1200 none { qualify := some 0 }).line.settings.speed = .ta1200
    ∧ (lineIn .qualify .sb300 none { dropout := some 0 }).line.timers.dropout = some 0
    ∧ (lineIn .online .sb300 none { loss := some 0 }).line.timers.loss = some 0
    ∧ (lineIn .fade .sb300 none { back := some 0 }).line.timers.back = some 0 := by decide +kernel

theorem test_fadeDropExpiry : ans .fadeDropExpiry (lineIn .fade .sb300 none { drop := some 0 }) (fun t =>
    t.line.state == .listen && t.now == 4800000 && t.port.causes == 8 && t.crq == [.notice (.lineState .listen .sb300)]) = true := by
  decide +kernel
theorem test_ta1200DropExpiry : ans .ta1200DropExpiry (online1200 .listening { gap := some 0, drop := some 0 }) (fun t =>
    t.line.state == .listen && t.line.direction == none && t.port.causes == 8) = true := by decide +kernel
/-- CarrierTimersMoveTheLine: the drop timer in FADE and in TA1200 LISTENING, without the carrier and with it. -/
theorem witness_CarrierTimersMoveTheLine_drop :
    (lineIn .fade .sb300 none { drop := some 7 }).line.timers.drop = some 7
    ∧ (online1200 .listening { drop := some 7 }).line.timers.drop = some 7
    ∧ (online1200 .listening { drop := some 7 }).line.direction = some .listening
    ∧ (online1200 .listening { drop := some 7 }).pins.carrier = false
    ∧ (withCarrier (online1200 .listening { drop := some 7 })).pins.carrier = true := by decide +kernel

/-- Section 1.8: with text waiting and the gap over, the line is taken; the lead-in is 40 ms, the tail 20 ms. -/
theorem test_turnaroundGapExpiry : ans .turnaroundGapExpiry
    ((online1200 .listening { gap := some 0, drop := some 0 }).setTx { ttq := [0x41] }) (fun t =>
    t.line.direction == some .taking && t.line.timers == { leadIn := some 180000 }) = true := by decide +kernel
theorem test_leadInEnd : ans .leadInEnd ((online1200 .taking { leadIn := some 0 }).setTx { ttq := [0x41] }) (fun t =>
    t.line.direction == some .talking && t.line.timers == { talk := some 120000 }
      && t.tx.progress == .char 0x41 false 120000 && t.tx.ttq == []) = true := by decide +kernel
/-- The Talk Limit passes inside a record: it runs on; outside one the line is released (R19). -/
theorem test_talkLimitExpiry :
    ans .talkLimitExpiry ((online1200 .talking { talk := some 0 }).setTx
      { progress := .record .reply [.brk, .char 1] 0 (some 6000000), ttq := [1] }) (fun t => t.line.direction == some .talking)
      && ans .talkLimitExpiry ((online1200 .talking { talk := some 0 }).setTx { progress := .char 1 false 6000000, ttq := [1] })
        (fun t => t.line.direction == some .talking && t.now == 6000001) = true := by decide +kernel
theorem test_release_after_talk_limit : ans .transmitItemEnd ((online1200 .talking { talk := some 0 }).setTx
      { progress := .char 1 false 6000000, ttq := [1] }) (fun t =>
    t.line.direction == some .releasing && t.line.timers == { tail := some 6025000 } && t.tx.ttq == [1]) = true := by decide +kernel
theorem test_tailEnd : ans .tailEnd (online1200 .releasing { tail := some 0 }) (fun t =>
    t.line.direction == some .listening && t.line.timers == { gap := some 60000, drop := some 60000 }) = true := by decide +kernel
/-- TurnsOfTheLine: each direction state with its timer running. -/
theorem witness_TurnsOfTheLine :
    (online1200 .listening { gap := some 0 }).line.timers.gap = some 0
    ∧ (online1200 .taking { leadIn := some 0 }).line.timers.leadIn = some 0
    ∧ (online1200 .talking { talk := some 0 }).line.timers.talk = some 0
    ∧ (online1200 .releasing { tail := some 0 }).line.timers.tail = some 0
    ∧ (online1200 .releasing {}).line.state = .online ∧ (online1200 .releasing {}).line.settings.speed = .ta1200
    ∧ (online1200 .talking {}).pins.carrier = false ∧ (withCarrier (online1200 .talking {})).pins.carrier = true
    ∧ (online1200 .listening { gap := some 0 }).txAct = none
    ∧ (((online1200 .listening { gap := some 0 }).setTx { ttq := [1] }).setNow 180000).txAct = some .take
    ∧ (online1200 .talking { talk := some 0 }).txAct = some .release := by decide +kernel
/-- With the carrier present already the tail is cut at once (R19, log 32). -/
theorem test_release_into_a_carrier : ((withCarrier (online1200 .talking { talk := some 0 })).doTx .release).line.direction = some .listening
    ∧ ((withCarrier (online1200 .talking { talk := some 0 })).doTx .release).line.timers = {} := by decide +kernel

/-- R13: nothing to send, and each kind of work alone; a REQUESTED slot is none in a 7-bit format. -/
theorem test_work :
    let s := online1200 .listening {}
    s.hasWork = false ∧ (s.setTx { flow := .resumePending }).hasWork = true ∧ (s.setTx { breakPending := true }).hasWork = true
    ∧ (s.setEngine { reply := some { record := .ack, readyAt := 0 } }).hasWork = true ∧ (s.setTx (slot2 .requested).tx).hasWork = true
    ∧ ((s.setLine { s.line with settings := { s.line.settings with format := .f7O1 } }).setTx (slot2 .requested).tx).hasWork = false
    ∧ (s.setTx { ttq := [0x41] }).hasWork = true
    ∧ (s.setTx { progress := .record .reply [.brk] 0 none }).hasWork = true := by decide +kernel

/-- NoTimerNoExpiry: after power-on none of the twenty timers runs. -/
theorem witness_NoTimerNoExpiry :
    [base.qualifyDue, base.dropoutDue, base.lossDue, base.returnDue, base.fadeDropDue, base.turnDropDue, base.gapDue,
     base.leadInDue, base.talkDue, base.tailDue] = List.replicate 10 none
    ∧ [base.recordGapDue, base.replyDue, base.itemEnd, base.repeatDue, base.partialDue .p0, base.stallEnd, base.phaseDue,
       base.rowDue, base.settleDue, base.stableDue .lid] = List.replicate 10 none := by decide +kernel

/-! ## Reception and records -/

/-- A route with no sink drops the text at once: here the Router waits, its sink being full. -/
def textWaits : State := online300.setArb { p0 := { cells := List.replicate 160 (cell 0x20), admitted := 160 }, pause := true }

theorem test_characterReceived_text : ans (.characterReceived 0xC1 true true none)
    (textWaits.setLine { textWaits.line with settings := { format := .f7E1 } }) (fun t =>
    t.rtq == [{ code := 0x7F, route := 0, substituted := true }]) = true := by decide +kernel
theorem test_characterReceived_not_listening : ans (.characterReceived 0x41 false true none) base (fun t => t == base) = true := by
  decide +kernel
/-- A full RTQ whose head waits. -/
def fullRtq : State := textWaits.setRtq (List.replicate 256 { code := 0x41, route := 0, substituted := false })
theorem test_characterReceived_full : ans (.characterReceived 0x42 false true none) fullRtq (fun t =>
    t.rtq.length == 256 && t.port.causes == 0x20#10 && (t.store.route 0).overflow) = true := by decide +kernel
/-- CharacterBecomesTextCell: no reception, a character in TEXT that is not all space, room in the RTQ and none. -/
theorem witness_CharacterBecomesTextCell :
    base.line.receiving = false ∧ textWaits.line.receiving = true ∧ textWaits.line.inBreak = false ∧ textWaits.line.held = false
    ∧ textWaits.engine.rx = .text ∧ isAllSpace .f8N1 0x41 false true = false ∧ textWaits.rtq.length < 256
    ∧ 256 ≤ fullRtq.rtq.length := by decide +kernel

/-- R14: 41h holds two ones, so its parity bit is 0 in 7E1 and 1 in 7O1; a stop bit of space marks in every format. -/
theorem test_marked :
    isMarked .f7E1 0xC1 false true = false ∧ isMarked .f7E1 0xC1 true true = true ∧ isMarked .f7O1 0x41 true true = false
    ∧ isMarked .f8N1 0x41 true false = true ∧ receivedCode .f7O1 0xC1 = 0x41 ∧ isAllSpace .f7E1 0x80 false false = true
    ∧ isAllSpace .f7E1 0 true false = false ∧ Format.f7E1 ≠ .f8N1 := by decide +kernel

/-- CharacterBecomesTextCell: a character over a Break under way, in a record and in TEXT, and over a held character (log 11). -/
theorem witness_CharacterBecomesTextCell_over :
    let s := textWaits.setLine { textWaits.line with inBreak := true }
    let h := textWaits.setLine { textWaits.line with held := true }
    s.line.receiving = true ∧ s.line.inBreak = true ∧ s.engine.rx = .text ∧ (s.setEngine { rx := .marker }).engine.rx ≠ .text
    ∧ h.line.receiving = true ∧ h.line.inBreak = false ∧ h.line.held = true ∧ h.rtq.length < 256
    ∧ ans (.characterReceived 0x41 false true none) h (fun t => t.rtq.map TextCell.code == [0x7F, 0x41] && !t.line.held)
    ∧ ans (.characterReceived 0x41 false true none) s (fun t => t.rtq.map TextCell.code == [0x41] && !t.line.inBreak) := by
  decide +kernel

theorem test_all_space_is_held : ans (.characterReceived 0 false false none) online300 (fun t =>
    t.line.held && t.rtq == []) = true := by decide +kernel
/-- The start edge of a held character stops the gap timer (R22): its expiry has no effect any more. -/
theorem test_held_character_stops_the_gap_timer :
    ans (.characterReceived 0 false false none) (receiving .station {}) (fun t =>
      t.line.held && t.engine.rx == .station && t.recordGapDue == none && ans .gapTimerExpiry t (fun u => u == t)) = true := by
  decide +kernel
/-- Half a bit time more than three character times and nine and a half bit times after the stop bit: the character comes after a Gap error, into TEXT (R22; log 12). -/
theorem test_late_character_counts_a_gap_error :
    ans (.characterReceived 0x41 false true none)
        (((receiving .station {}).setArb textWaits.arb).setNow 400000) (fun t =>
      t.engine.rx == .text && t.engine.counts.gap == 1 && t.rtq == [{ code := 0x41, route := 0, substituted := false }])
      && ans (.characterReceived 0x07 false true none) ((receiving .station {}).setNow 395000) (fun t =>
        t.engine.rx == .route && t.engine.counts.gap == 0) = true := by decide +kernel
/-- On an empty queue the gap timer expires when it is due, or one character time later where a start bit is under way then; where nothing is received, when it is due (R22; log 2, log 12). -/
theorem test_gap_timer_expires_of_itself :
    (Config.startBit 300001 = false → (receiving .station {}).timerDue .recordGap = some 300001)
    ∧ (Config.startBit 300001 = true → (receiving .station {}).timerDue .recordGap = some 400001)
    ∧ (((receiving .station {}).setLine { state := .online, settings := { speed := .ta1200 }, direction := some .taking }).setNow
        75001).ready = [.recordGap] := by
  have running : (receiving .station {}).recordGapDue = some 300001 := by decide +kernel
  have rx : (receiving .station {}).line.receiving = true := by decide +kernel
  refine ⟨fun h => timerDue_recordGap_at_once running (.inr h), fun h => ?_, by decide +kernel⟩
  rw [timerDue_recordGap running, rx, h]; decide +kernel
/-- The carrier is gone and the loss delay ends after the gap timer is due: the Gap error comes first, not FADE, also where the clock has gone past both (R22, R29). -/
theorem test_gap_error_comes_before_fade (quiet : Config.startBit 300001 = false) :
    let s := ((receiving .station {}).setLine { online300.line with timers := { loss := some 120002 } }).setNow 390000
    s.lossDue = some 300002 ∧ .recordGap ∈ s.ready ∧ .loss ∉ s.ready := by
  intro s
  have gap : s.timerDue .recordGap = some 300001 := timerDue_recordGap_at_once (by decide +kernel) (.inr quiet)
  have loss : s.timerDue .loss = some 300002 := by decide +kernel
  refine ⟨loss, (mem_ready s _).2 ⟨300001, gap, by decide +kernel, ?_⟩, ?_⟩
  · intro u e h
    by_cases hu : u = .recordGap
    · subst hu; exact Nat.le_of_eq (Option.some.inj (gap.symm.trans h))
    · have others : ∀ v : Timer, v ≠ .recordGap → (s.timerDue v).all (300001 ≤ ·) = true := by
        intro v hv; cases v <;> first | exact absurd rfl hv | decide +kernel
      simpa [h] using others u hu
  · rintro h
    obtain ⟨d, hd, _, least⟩ := (mem_ready s _).1 h
    have : d = 300002 := Option.some.inj (hd.symm.trans loss)
    have := least _ _ gap
    omega
theorem test_heldCharacterRelease : ans .heldCharacterRelease (textWaits.setLine { textWaits.line with held := true }) (fun t =>
    !t.line.held && t.rtq == [{ code := 0x7F, route := 0, substituted := true }]) = true := by decide +kernel
theorem test_breakDetected : ans .breakDetected (receiving .payload { payload := [1] }) (fun t =>
    t.engine.rx == .marker && t.engine.record == { crc := 0xFFFF } && t.engine.gap == none && t.line.inBreak
      && t.engine.counts == {}) = true := by decide +kernel
theorem test_breakDetected_7bit : ans .breakDetected (online300.setLine { online300.line with settings := { format := .f7E1 } }) (fun t =>
    t.engine.rx == .text && t.crq == [.notice .brk]) = true := by decide +kernel
theorem test_breakEnd : ans .breakEnd ((receiving .marker {}).setLine { online300.line with inBreak := true }) (fun t =>
    t.engine.gap == some 0 && !t.line.inBreak) = true := by decide +kernel
/-- BreaksAndHeldCharacters: a held character in TEXT with room and without, and in a record; a Break in both kinds of format, in and out of a record. -/
theorem witness_BreaksAndHeldCharacters :
    isAllSpace .f8N1 0 false false = true ∧ isAllSpace .f7E1 0x80 false false = true ∧ base.line.receiving = false
    ∧ (fullRtq.setLine { fullRtq.line with held := true }).line.receiving = true ∧ 256 ≤ fullRtq.rtq.length
    ∧ (receiving .station {}).engine.rx ≠ .text ∧ (receiving .station {}).line.receiving = true
    ∧ (receiving .station {}).line.settings.format = .f8N1 ∧ (receiving .station {}).line.inBreak = false := by decide +kernel
/-- BreaksAndHeldCharacters, HeaderByteIsChecked, RecordBytesAssemble, AbandonmentIsCounted: a start edge in time and one too late, of a character (with the nominal bit period and with a trim) and of a Break. -/
theorem witness_gap_before :
    ((receiving .header {}).setNow 395000).gapBeforeCharacter = false ∧ ((receiving .header {}).setNow 395001).gapBeforeCharacter = true
    ∧ (((receiving .header {}).setLine { online300.line with trim := some 67200 }).setNow 395000).gapBeforeCharacter = true
    ∧ ((receiving .header {}).setNow 500000).gapBeforeBreak = false ∧ ((receiving .header {}).setNow 500001).gapBeforeBreak = true
    ∧ (online300.setNow 900000).gapBeforeCharacter = false
    ∧ (receiving .header {}).line.receiving = true ∧ (receiving .header {}).line.inBreak = false ∧ (receiving .header {}).line.held = false
    ∧ ((receiving .header {}).setLine { online300.line with inBreak := true }).line.inBreak = true := by decide +kernel

/-- Header 2Ah: kind 2, length code 5 (section 2.2). -/
theorem test_header_good : ans (.characterReceived 0x2A false true none) (receiving .header { crc := 0xFFFF }) (fun t =>
    t.engine.rx == .station && t.engine.record.kind == 2 && t.engine.record.lenCode == 5
      && t.engine.record.crc == crcOf [0x2A]) = true := by decide +kernel
theorem test_header_bad : ans (.characterReceived 0xFF false true none) (receiving .header { crc := 0xFFFF }) (fun t =>
    t.engine.rx == .text && t.engine.counts.header == 1 && t.port.causes == 0x10#10) = true := by decide +kernel
/-- HeaderByteIsChecked: a good header, a bad one, a marked one. -/
theorem witness_HeaderByteIsChecked :
    (receiving .header {}).engine.rx = .header ∧ (receiving .header {}).line.receiving = true
    ∧ (receiving .header {}).line.inBreak = false ∧ (receiving .header {}).line.held = false
    ∧ isAllSpace .f8N1 0x2A false true = false ∧ isMarked .f8N1 0x2A false true = false ∧ headerOk 0x2A = true
    ∧ headerOk 0x2B = false ∧ isMarked .f8N1 0x2A false false = true ∧ isAllSpace .f8N1 0x2A false false = false := by decide +kernel

/-- The standard check value of the generator of section 2.3 with preset FFFFh, reflected, without a final inversion. -/
theorem test_crc_of_the_nine_digits : crcOf [0x31, 0x32, 0x33, 0x34, 0x35, 0x36, 0x37, 0x38, 0x39] = 0x6F91 := by decide +kernel

/-- Seven bit times at 300 bit/s are 70000 units; 4 percent is 2800 (R17). -/
theorem test_marker_interval : [67199, 67200, 72800, 72801].map (fun n => intervalOk .sb300 (some n))
    = [false, true, true, false] := by decide +kernel
theorem test_marker : ans (.characterReceived 0xC3 false true (some 69000)) (receiving .marker {}) (fun t =>
    t.engine.rx == .header && t.line.trim == some 69000) = true := by decide +kernel
theorem test_route_byte : ans (.characterReceived 0xD6 false true none) (receiving .route { lenCode := 1 }) (fun t =>
    t.engine.rx == .payload && t.engine.record.route == 6 && t.engine.record.segment == .first && t.engine.record.ack
      && t.engine.record.routeUpper) = true := by decide +kernel
/-- The CRC high byte of a POLL from a station that is not this one: nothing happens, no reply (R30). -/
theorem test_check_not_addressed : ans (.characterReceived 0 false true none)
    (receiving .check { kind := 4, station := 9, crc := 0, crcLow := some 0 }) (fun t =>
    t.engine.rx == .text && t.engine.reply == none && t.engine.counts == {}) = true := by decide +kernel
/-- RecordBytesAssemble: each reception state; the marker right and wrong; the last payload byte and one before it; the CRC's two bytes. -/
theorem witness_RecordBytesAssemble :
    (∀ x ∈ [RxState.marker, .station, .route, .payload, .check], (receiving x {}).engine.rx = x
      ∧ (receiving x {}).line.receiving = true ∧ (receiving x {}).line.settings.format = .f8N1)
    ∧ intervalOk .sb300 (some 70000) = true ∧ intervalOk .sb300 none = false ∧ payloadLength 0 = 0 ∧ payloadLength 1 = 2
    ∧ (receiving .check {}).engine.record.crcLow = none
    ∧ (receiving .check { crcLow := some 0x34 }).engine.record.crcLow = some 0x34 := by decide +kernel

theorem test_gapTimerExpiry : ans .gapTimerExpiry (receiving .station {}) (fun t =>
    t.engine.rx == .text && t.engine.counts.gap == 1 && t.now == 300001) = true := by decide +kernel
theorem test_replyReady : ans .replyReady (online300.setEngine
      { reply := some { record := { kind := 7, route := 0, segment := .whole, payload := [] }, readyAt := 200000 } }) (fun t =>
    t.now == 200000 && t.engine.reply == none && (match t.tx.progress with
      | .record .reply items 0 (some 200000) => items.length == 7
      | _ => false)) = true := by decide +kernel
theorem witness_AbandonmentIsCounted :
    (receiving .payload {}).engine.rx ≠ .text ∧ (receiving .payload {}).engine.gap = some 0
    ∧ isMarked .f8N1 0x41 false false = true ∧ isAllSpace .f8N1 0x41 false false = false := by decide +kernel

/-- A record for this terminal, of a kind, acknowledged. -/
def inbound (kind : BitVec 3) (payload : List Byte) : Assembly :=
  { kind := kind, station := 0, route := 6, ack := true, payload := payload }

/-- The line online, every record accepted by filter 3 with its Report flag. -/
def reporting : Machine.Filter := { enable := true, mask := 0, action := .accept, report := true }
def anyRecord : FilterMask := { kind := 7, route := 15, segment := 3 }
def accepting : State :=
  online300.setEngine { filters := (Vector.replicate 8 {}).set 3 reporting, masks := (Vector.replicate 4 {}).set 0 anyRecord }

/-- A broadcast does what the addressed record does and leaves no reply (R30). -/
theorem test_broadcast_is_not_answered :
    (accepting.decide { inbound 6 [1, 2] with station := 31 }).engine.reply = none
    ∧ (accepting.decide { inbound 6 [1, 2] with station := 31 }).crq
      = [.message 3 [1, 2], .notice (.recordAccepted 6 6 3)]
    ∧ (accepting.decide (inbound 6 [1, 2])).engine.reply.isSome = true := by decide +kernel
theorem witness_AddressDecidesRecord :
    (inbound 6 []).addressed 0 = true ∧ (inbound 6 []).addressed 30 = false ∧ (inbound 6 []).stationUpper = false
    ∧ (inbound 6 []).station.toNat = accepting.line.settings.station.val
    ∧ ({ inbound 6 [] with station := 31 } : Assembly).addressed 30 = true
    ∧ ({ inbound 6 [] with stationUpper := true } : Assembly).addressed 0 = false := by decide +kernel
/-- FirstMatchingFilterGoverns: a filter that matches with none before it, none that matches, and a refusal. -/
theorem witness_FirstMatchingFilterGoverns :
    accepting.engine.filters[3].matches accepting.engine.masks (inbound 6 []) = true
    ∧ (∀ m : Fin 8, m < 3 → accepting.engine.filters[m].matches accepting.engine.masks (inbound 6 []) = false)
    ∧ (∀ m : Fin 8, online300.engine.filters[m].matches online300.engine.masks (inbound 6 []) = false)
    ∧ (online300.engine.governs (inbound 6 [])).1 = .refuse ∧ (accepting.engine.governs (inbound 7 [])).1 = .accept
    ∧ accepting.examine (inbound 7 []) = .inl .kind ∧ accepting.examine (inbound 4 []) = .inr .poll := by decide +kernel
/-- AcceptedRecordActs: kinds 0 to 7 accepted, room and none, a short, a false and a good STORE, permitted and not. -/
theorem witness_AcceptedRecordActs :
    (inbound 1 []).addressed accepting.line.settings.station = true ∧ (accepting.engine.governs (inbound 1 [])).1 = .accept
    ∧ accepting.rtq.length + (inbound 1 [0x41]).payload.length ≤ 256 ∧ 256 < fullRtq.rtq.length + (inbound 1 [0x41]).payload.length
    ∧ accepting.segmentFits .p3 .whole .normal [0x41] = true
    ∧ (base.setArb { p3 := { cells := List.replicate 96 (cell 0x20) } }).segmentFits .p3 .whole .normal [0x41] = false
    ∧ checkStore [1] = .short ∧ checkStore [1, 16, 0, 0] = .badField
    ∧ checkStore [4, 8, 5, 0] = .ok (.energy 8 5) ∧ base.store.permits (.energy 8 5) = false
    ∧ base.store.permits (.softKey 0 {}) = true ∧ base.store.fits (.softKey 0 {}) = true := by decide +kernel
theorem witness_AcceptedRecordActs_no_room :
    ({ base.store with softKeys := Vector.replicate 12 { string := List.replicate 26 0x41 } } : Store).fits
      (.softKey 0 { string := List.replicate 64 0x41 }) = false
    ∧ (base.setCrq fullCrq).crq.length = 64 := by decide +kernel
theorem test_store_record_denied : (accepting.decide (inbound 3 [4, 8, 5, 0])).store = accepting.store
    ∧ (accepting.decide (inbound 3 [4, 8, 5, 0])).engine.reply
      = (accepting.answer (inbound 3 []) (.nak .denied 3)).engine.reply := by decide +kernel

/-! ## The Line Transmitter -/

theorem test_configFlow : ans (.configFlow [1, 10, 0, 20, 0, 0x13, 0x11]) base (fun t =>
    t.tx.flowSettings.high == 10 && t.tx.flowSettings.low == 9) = true := by decide +kernel
theorem test_sendText : ans (.sendText [0x41, 0x42]) online300 (fun t =>
    t.tx.ttq == [0x42] && t.tx.progress == .char 0x41 false 0)
      && ans (.sendText (List.replicate 72 0x41)) (base.setTx { ttq := List.replicate 57 0 }) (fun t =>
        t.port.response == { result := .full } && t.tx.ttq.length == 57)
      && ans (.sendText (List.replicate 72 0x41)) (base.setTx { ttq := List.replicate 56 0 }) (fun t => t.tx.ttq.length == 128)
      = true := by decide +kernel
theorem test_sendBreak : ans (.sendBreak []) online300 (fun t => t.tx.progress == .brk 0 && !t.tx.breakPending)
      && ans (.sendBreak []) base (fun t => t.tx == base.tx && t.port.response == { result := .done }) = true := by decide +kernel
/-- TransmitCommandsActAndFlowCompares: the enable flag past and in its range, room and none in the TTQ, a line with a connection and without. -/
theorem witness_TransmitCommandsActAndFlowCompares :
    2 ≤ (byteAt [2, 0, 0, 0, 0, 0, 0] 0).toNat ∧ flag? (byteAt [1, 0, 0, 0, 0, 0, 0] 0) = some true
    ∧ base.tx.ttq.length + [(0x41 : Byte)].length ≤ 128
    ∧ 128 < (base.setTx { ttq := List.replicate 128 0 }).tx.ttq.length + [(0x41 : Byte)].length
    ∧ online300.line.state = .online ∧ base.line.state ≠ .online ∧ base.line.state ≠ .fade := by decide +kernel

/-- A connection with this flow state, RTQ fill, flow enabled or not, and a flow character on the line or none. -/
def flowing (x : FlowState) (fill : Nat) (enable onLine : Bool) : State :=
  (online300.setTx { flow := x, flowSettings := { enable := enable }, progress := if onLine then .char 0x13 true 0 else .idle }).setRtq
    (List.replicate fill { code := 1, route := 0, substituted := false })
/-- The flow state after a comparison, flow enabled and disabled, at fills on either side of the thresholds 192 and 64 (R58). -/
theorem test_flow_compares :
    (([191, 192].map fun n => (flowing .flowing n true false).flowCompare.tx.flow) = [.flowing, .holdPending])
    ∧ (([191, 192].map fun n => (flowing .holdPending n true false).flowCompare.tx.flow) = [.flowing, .holdPending])
    ∧ (([191, 192].map fun n => (flowing .holdPending n true true).flowCompare.tx.flow) = [.holdPending, .holdPending])
    ∧ (([64, 65].map fun n => (flowing .held n true false).flowCompare.tx.flow) = [.resumePending, .held])
    ∧ (([64, 65].map fun n => (flowing .resumePending n true false).flowCompare.tx.flow) = [.resumePending, .held])
    ∧ (([64, 65].map fun n => (flowing .resumePending n true true).flowCompare.tx.flow) = [.resumePending, .resumePending])
    ∧ ([FlowState.flowing, .holdPending, .held, .resumePending].map fun x => (flowing x 200 false false).flowCompare.tx.flow)
      = [.flowing, .flowing, .resumePending, .resumePending] := by decide +kernel
/-- TransmitCommandsActAndFlowCompares: each flow state at fills on either side of the thresholds, enabled and not, a flow character on the line and none, a line without a connection, and an RTQ that is not empty. -/
theorem witness_TransmitCommandsActAndFlowCompares_flow :
    (∀ x ∈ [FlowState.flowing, .holdPending, .held, .resumePending], (flowing x 1 true false).tx.flow = x
      ∧ (flowing x 1 true false).line.state = .online)
    ∧ (flowing .held 192 true false).tx.flowSettings.high ≤ (flowing .held 192 true false).rtq.length
    ∧ (flowing .held 191 true false).rtq.length < (flowing .held 191 true false).tx.flowSettings.high
    ∧ (flowing .held 64 true false).rtq.length ≤ (flowing .held 64 true false).tx.flowSettings.low
    ∧ (flowing .held 65 true false).tx.flowSettings.low < (flowing .held 65 true false).rtq.length
    ∧ (flowing .held 0 false false).tx.flowSettings.enable = false ∧ (flowing .held 0 true false).tx.flowSettings.enable = true
    ∧ (flowing .held 0 true true).tx.progress = .char 0x13 true 0 ∧ (flowing .held 0 true false).tx.progress = .idle
    ∧ base.line.state ≠ .online ∧ base.line.state ≠ .fade ∧ (flowing .held 1 true false).rtq.length = 1 := by decide +kernel

theorem test_loadSlot : ans (.loadSlot ([2, 1, 3] ++ List.replicate 16 0x41)) (slot2 .aborted) (fun t =>
    t.tx.slots[2] == { state := .loaded, route := 1, segment := .last, payload := List.replicate 16 0x41 })
      && ans (.loadSlot [2, 1, 0, 0x41]) base (fun t => t.port.response == { result := .badField })
      && ans (.loadSlot [2, 1, 0, 0x41]) (slot2 .sending) (fun t => t.port.response == { result := .busy }) = true := by decide +kernel
theorem test_requestSlot : ans (.requestSlot [2]) (slot2 .loaded) (fun t => t.tx.slots[2].state == .requested)
      && ans (.requestSlot [2]) (slot2 .free) (fun t => t.port.response == { result := .busy })
      && ans (.requestSlot [4]) base (fun t => t.port.response == { result := .badField }) = true := by decide +kernel
/-- In ONLINE a requested slot begins at once: its record is nine items for a two-byte payload, its first the Break (R45, R49). -/
theorem test_requestSlot_begins : ans (.requestSlot [0]) (online300.setTx
      { slots := (Vector.replicate 4 {}).set 0 { state := .loaded, payload := [1, 2] } }) (fun t =>
    t.tx.slots[0].state == .sending && (match t.tx.progress with
      | .record (.slot 0) items 0 (some 0) => items.length == 9 && items.head? == some .brk
      | _ => false)) = true := by decide +kernel
theorem test_abortSlot : ans (.abortSlot [2]) (slot2 .requested) (fun t =>
    t.tx.slots[2].state == .aborted && t.crq == [.notice (.slotDone 2 .aborted)])
      && ans (.abortSlot [2]) (slot2 .sending) (fun t => t.tx.slots[2].abortNoted && t.crq == []) = true := by decide +kernel
/-- SlotCommandsAct: a number past its range, and slot 2 in every state. -/
theorem witness_SlotCommandsAct :
    4 ≤ (byteAt [4] 0).toNat ∧ (fin? 4 (byteAt [2] 0)) = some 2
    ∧ (∀ x ∈ [SlotState.free, .loaded, .requested, .sending, .sent, .aborted], (slot2 x).tx.slots[2].state = x)
    ∧ (fin? 16 15).isSome ∧ segment? 3 = some .last ∧ ([2, 1, 3] ++ List.replicate 48 (0 : Byte)).length - 3 = 48
    ∧ ¬ [(2 : Byte), 1, 3, 9].length - 3 ∈ [0, 2, 4, 8, 12, 16, 32, 48] := by decide +kernel

theorem test_transmitItemEnd : ans .transmitItemEnd (sending (.record (.slot 1) [.brk, .char 5] 0 (some 0))) (fun t =>
    t.tx.progress == .record (.slot 1) [.brk, .char 5] 1 (some 200000)) = true := by decide +kernel
theorem test_transmitItemEnd_flow : ans .transmitItemEnd (online300.setTx
      { progress := .char 0x13 true 0, flow := .holdPending }) (fun t =>
    t.now == 100000 && t.tx.progress == .char 0x11 true 100000 && t.tx.flow == .resumePending) = true := by decide +kernel
/-- ItemEndFreesTransmitter: each kind of item, a record's item in the middle and at the end. -/
theorem witness_ItemEndFreesTransmitter :
    (sending (.char 5 false 0)).tx.progress = .char 5 false 0 ∧ (sending (.brk 0)).tx.progress = .brk 0
    ∧ (online300.setTx { progress := .char 5 true 0, flow := .holdPending }).tx.flow = .holdPending
    ∧ (online300.setTx { progress := .char 5 true 0, flow := .resumePending }).tx.flow = .resumePending
    ∧ (sending (.record (.slot 1) [.brk, .char 5] 0 (some 0))).tx.progress = .record (.slot 1) [.brk, .char 5] 0 (some 0)
    ∧ [TxItem.brk, .char 5][0]? = some .brk ∧ 0 + 1 < [TxItem.brk, .char 5].length ∧ 1 + 1 = [TxItem.brk, .char 5].length
    ∧ payloadLength 0 = ([] : List Byte).length ∧ payloadLength 7 = (List.replicate 48 (0 : Byte)).length := by decide +kernel
/-- An empty reply of station 0: Break, marker, header, station, route, and the CRC of the last three (R49). -/
theorem test_ack_record : (frameRecord 0 .ack).take 5 = [.brk, .char 0xC3, .char 0xC1, .char 0, .char 0]
    ∧ (frameRecord 0 .ack).length = 7 := by decide +kernel
/-- TransmitterChoosesInOrder: each source in turn is the first that is eligible. -/
theorem witness_TransmitterChoosesInOrder :
    (online300.setTx { flow := .holdPending, breakPending := true }).source = some .flow
    ∧ (online300.setTx { breakPending := true, ttq := [1] }).source = some .brk
    ∧ ((online300.setTx { ttq := [1] }).setEngine
        { reply := some { record := { kind := 0, route := 0, segment := .whole, payload := [] }, readyAt := 0 } }).source = some .reply
    ∧ (slot2 .requested).source = some (.slot 2) ∧ (online300.setTx { ttq := [1] }).source = some .text ∧ online300.source = none
    ∧ (online300.setTx { ttq := [1] }).txAct = some (.choose .text)
    ∧ (sending (.record .reply [.brk, .char 1] 1 none)).txAct = some .resume := by decide +kernel
/-- TransmitterChoosesInOrder: TALKING with text, the Talk Limit reached but not passed. -/
theorem witness_TransmitterChoosesInOrder_talking :
    let s := ((online1200 .talking { talk := some 0 }).setTx { ttq := [1] }).setNow 6000000
    s.line.direction = some .talking ∧ s.tx.progress = .idle ∧ s.line.timers.talk = some 0
    ∧ s.now ≤ 0 + 3000 * s.line.settings.talkMs ∧ s.source = some .text ∧ s.txAct = some (.choose .text) := by decide +kernel

/-- R2: 'A' in the three formats: start bit, least significant bit first, parity, stop bit. -/
theorem test_frames :
    frameBits .f8N1 0x41 = [false, true, false, false, false, false, false, true, false, true]
    ∧ frameBits .f7E1 0xC1 = [false, true, false, false, false, false, false, true, false, true]
    ∧ frameBits .f7O1 0x41 = [false, true, false, false, false, false, false, true, true, true] := by decide +kernel

/-! ## The keyboard -/

theorem test_configKeyboard : ans (.configKeyboard [0, 16, 0xFF, 0xFF, 59, 0, 15]) base (fun t =>
    t.keys.settings == { press := 1, release := 15, delayMs := 1500, intervalMs := 50, route := 15 }) = true := by decide +kernel
theorem test_writeKeymap : ans (.writeKeymap [95, 3, 2, 11]) base (fun t =>
    t.keys.entry 95 .function == .softKey 11 && t.keys.entry 95 .plain == .report)
      && ans (.writeKeymap [0, 0, 2, 12]) base (fun t => t.port.response == { result := .badField }) = true := by decide +kernel
theorem test_readKeymap : ans (.readKeymap [3, 1]) (base.setKeys { keymap := [(13, .character 0x41)] }) (fun t =>
    t.port.response == { result := .done, payload := [1, 0x41] })
      && ans (.readKeymap [96, 0]) base (fun t => t.port.response == { result := .badField }) = true := by decide +kernel
theorem witness_KeyboardTablesAreWritten :
    (fin? 16 15).isSome ∧ 16 ≤ (16 : Byte).toNat ∧ 96 ≤ (96 : Byte).toNat ∧ (fin? 96 95).isSome ∧ layer? 3 = some .function
    ∧ keyAction? 4 3 = some (.modifier .lock) ∧ keyAction? 4 4 = none ∧ keyAction? 5 1 = none
    ∧ ([(0, KeyAction.none), (3, .character 1)] : List (Nat × KeyAction)).Pairwise (fun e f => e.1 < f.1) := by decide +kernel

/-- Section 12.4: each keymap action with the last argument of its range, and the first past it. -/
theorem test_keymap_codes :
    [keyAction? 0 0, keyAction? 1 0xFF, keyAction? 2 11, keyAction? 3 5, keyAction? 4 3, keyAction? 5 0]
      = [some .none, some (.character 0xFF), some (.softKey 11), some (.localAction .attention), some (.modifier .lock), some .report]
    ∧ [keyAction? 0 1, keyAction? 2 12, keyAction? 3 6, keyAction? 4 4, keyAction? 5 1, keyAction? 6 0] = List.replicate 6 none
    ∧ fin? 96 95 = some 95 ∧ fin? 96 96 = none ∧ layer? 4 = none := by decide +kernel

/-- Key 0 is Shift in the Plain layer; key 5 is a character in the Shift layer (section 4.10). -/
def shiftKeys : Keyboard :=
  { keymap := [(0, .modifier .shift), (20, .character 0x61), (21, .character 0x41), (24, .modifier .lock)] }
theorem test_shifted_press : ((base.setKeys { shiftKeys with down := [{ key := 0, modifier := some .shift }] }).admitPress 5).keys.events
    = [{ key := 5, layer := .shift, kind := .press }] := by decide +kernel
theorem test_lock_press : ((base.setKeys shiftKeys).admitPress 6).keys.lock = true
    ∧ ((base.setKeys shiftKeys).admitPress 6).keys.events = [] := by decide +kernel
/-- LayerFollowsModifiers: a modifier key, an ordinary one, room in the Key Event List, and each layer. -/
theorem witness_LayerFollowsModifiers :
    base.mon.power = .run ∧ shiftKeys.entry 0 .plain = .modifier .shift ∧ shiftKeys.entry 5 .plain = .character 0x61
    ∧ (base.setKeys shiftKeys).keys.events.length < 24
    ∧ ({ shiftKeys with down := [{ key := 1, modifier := some .function }] } : Keyboard).layer = .function
    ∧ ({ shiftKeys with down := [{ key := 1, modifier := some .control }], lock := true } : Keyboard).layer = .control
    ∧ ({ shiftKeys with lock := true } : Keyboard).layer = .shift ∧ shiftKeys.layer = .plain := by decide +kernel

/-- The third closed scan of key 7 is a press; its entry is Report, so the Dispatcher gives the controller a Key entry. -/
theorem test_scan_press : ans (.scan (1#96 <<< 7)) (base.setKeys { counts := (List.replicate 96 0).set 7 2 }) (fun t =>
    t.now == 12000 && t.keys.nextScan == 24000 && t.keys.isDown 7 && t.crq == [.key 7 .plain] && t.keys.events == []
      && t.keys.repeating == some { key := 7, layer := .plain, due := 1512000 }) = true := by decide +kernel
theorem test_scan_release : ans (.scan 0) (base.setKeys { counts := (List.replicate 96 0).set 7 4, down := [{ key := 7, modifier := none }] })
    (fun t => t.keys.down == [] && t.keys.count 7 == 0) = true := by decide +kernel
/-- Section 4.10: keys (0,0), (0,1), (1,0) down; (1,1) is Blocked, (1,2) is not. -/
theorem test_ghost : let k : Keyboard := { down := [0, 1, 12].map fun n => { key := n, modifier := none } }
    k.blocked 13 = true ∧ k.blocked 14 = false := by decide +kernel
theorem test_repeatTimerExpiry : ans .repeatTimerExpiry
    ((base.setKeys { repeating := some { key := 7, layer := .plain, due := 9 } }).setCrq fullCrq) (fun t =>
    t.keys.events == [{ key := 7, layer := .plain, kind := .repeated }]
      && t.keys.repeating == some { key := 7, layer := .plain, due := 300009 }) = true := by decide +kernel
/-- ScansAndRepeatsMakeEvents: no key down or awaiting; a count below the last one; three and four waiting events. -/
theorem witness_ScansAndRepeatsMakeEvents :
    base.mon.power = .run ∧ base.keys.down = [] ∧ base.keys.awaiting = 0 ∧ base.keys.count 7 + 1 < base.keys.settings.press
    ∧ (base.setKeys { counts := (List.replicate 96 0).set 7 2 }).keys.count 7 < 15
    ∧ 3 ≤ (base.setKeys { counts := (List.replicate 96 0).set 7 2 }).keys.count 7 + 1
    ∧ (waiting 3).length < 4 ∧ 4 ≤ (waiting 4).length
    ∧ (base.setKeys { repeating := some { key := 7, layer := .plain, due := 9 } }).keys.repeating.isSome = true := by decide +kernel

/-- Key 7 down, its entry a Local action in the Plain layer. -/
def localKey (a : LocalAction) : State := base.setKeys { keymap := [(28, .localAction a)] }
/-- The Composer holds P2's line with its JobEnd: the job is closing. -/
def closingJob : State := base.setArb { hold := some .p2 } |>.setComp { line := some { port := .p2, entries := [.feed 1], jobEnd := true } }
/-- ScansAndRepeatsMakeEvents: a key that is closed, open below the Release Count and at it, down, awaiting release, and neither; a qualified press; the immediate actions with a Hold, none, and a closing job; a full Key Event List. -/
theorem witness_ScansAndRepeatsMakeEvents_keys :
    (1#96 <<< 7).getLsbD 7 = true ∧ (0#96).getLsbD 7 = false
    ∧ ({ down := [{ key := 7, modifier := none }] } : Keyboard).isDown 7 = true ∧ ({ awaiting := 1#96 <<< 7 } : Keyboard).awaiting.getLsbD 7 = true
    ∧ ({ counts := (List.replicate 96 0).set 7 4 } : Keyboard).count 7 < base.keys.settings.release
    ∧ base.keys.settings.release ≤ ({ counts := (List.replicate 96 0).set 7 5 } : Keyboard).count 7
    ∧ base.keys.settings.press ≤ ({ counts := (List.replicate 96 0).set 7 3 } : Keyboard).count 7 ∧ base.keys.blocked 7 = false
    ∧ ({ down := [0, 1, 12].map fun n => { key := n, modifier := none } } : Keyboard).blocked 13 = true
    ∧ (localKey .sendBreak).keys.entry 7 .plain = .localAction .sendBreak ∧ (localKey .sendBreak).keys.layer = .plain
    ∧ (localKey .cancelPrint).keys.entry 7 .plain = .localAction .cancelPrint ∧ (localKey .cancelPrint).arb.hold = none
    ∧ (held [cell 1] none).arb.hold = some .p2 ∧ (held [cell 1] none).comp.line = none
    ∧ closingJob.arb.hold = some .p2 ∧ closingJob.comp.line = some { port := JobPort.p2.toPort, entries := [.feed 1], jobEnd := true }
    ∧ base.keys.entry 7 .plain = .report ∧ 24 ≤ (waiting 24).length := by decide +kernel
/-- ScansAndRepeatsMakeEvents: a press in Doze. What the wake samples is free, so its effect is known by the law. -/
theorem witness_ScansAndRepeatsMakeEvents_doze : dozing.mon.power = .doze ∧ (dozing.wake .keyPress).mon.power = .run :=
  ⟨rfl, wake_power _ _⟩
theorem test_key_lost : ((base.setKeys { events := waiting 24 }).admitPress 7).port.causes = 1
    ∧ ((base.setKeys { events := waiting 24 }).admitPress 7).keys.repeating = some { key := 7, layer := .plain, due := 1500000 } := by
  decide +kernel
theorem test_cancel_print_key : ((held [cell 0x41, cell 0x42] none).setKeys (localKey .cancelPrint).keys |>.admitPress 7).crq
      = [.notice (.jobEvent .p2 .cancelled)]
    ∧ (closingJob.setKeys (localKey .cancelPrint).keys |>.admitPress 7).crq = [] := by decide +kernel

/-- Key 7's event waits; its entry in the Plain layer is this one. -/
def pressed (a : KeyAction) : State :=
  base.setKeys { keymap := [(28, a)], events := [{ key := 7, layer := .plain, kind := .press }] }
/-- Soft key 0 has this string on this route. -/
def withSoftKey (s : State) (r : Route) (codes : List Byte) : State :=
  s.setStore { routes := Route.powerOn.set 3 r, softKeys := (Vector.replicate 12 {}).set 0 { string := codes, route := 3 } }
theorem test_dispatch_soft_key :
    (withSoftKey (pressed (.softKey 0)) { print := true, controller := true, translate := .upper } [0x61, 0x62]).dispatch.crq
      = [.character 3 0x41 false, .character 3 0x42 false]
    ∧ (withSoftKey (pressed (.softKey 0)) { print := true, transmit := true } (List.replicate 33 1)).dispatch.tx.ttq.length = 33
    ∧ (withSoftKey (pressed (.softKey 0)) { print := true, transmit := true } (List.replicate 33 1)).dispatch.port.causes = 0x20#10 := by
  decide +kernel
/-- KeyEventsAreDispatched: no event; an event whose entry is each kind; a string that is empty, fits, and does not; a full CRQ; a full P1. -/
theorem witness_KeyEventsAreDispatched :
    base.keys.events = []
    ∧ (∀ a ∈ [KeyAction.none, .character 0x41, .softKey 0, .modifier .shift], (pressed a).keys.entry 7 .plain = a)
    ∧ (∀ a ∈ [LocalAction.feedLine, .tearFeed, .toggleEcho, .attention, .sendBreak, .cancelPrint],
      (pressed (.localAction a)).keys.entry 7 .plain = .localAction a)
    ∧ (base.setKeys { events := waiting 1 }).keys.entry 0 .plain = .report ∧ (pressed .none).keys.events.length = 1
    ∧ (withSoftKey (pressed (.softKey 0)) { transmit := true } []).store.softKeys[0].string = []
    ∧ (withSoftKey (pressed (.softKey 0)) { transmit := true } [1]).dispatchTakes = true
    ∧ ((withSoftKey (pressed (.softKey 0)) { transmit := true } [1]).setTx { ttq := List.replicate 128 0 }).dispatchTakes = false
    ∧ ((withSoftKey (pressed (.softKey 0)) { transmit := true, dropBlocked := true } [1]).setTx { ttq := List.replicate 128 0 }).dispatchTakes = true
    ∧ ((base.setKeys { events := waiting 1 }).setCrq fullCrq).dispatchTakes = false
    ∧ ((pressed (.localAction .feedLine)).setArb { p1 := { cells := List.replicate 32 (cell 1) } }).dispatchTakes = false := by decide +kernel

/-! ## The Shared Store and the text queues -/

theorem test_writeStore_route : ans (.writeStore [1, 3, 0xE9, 1]) base (fun t =>
    t.store.route 3 == { print := true, translate := .upper, style := .inverse, dropBlocked := true, locked := true }) = true := by
  decide +kernel
theorem test_writeStore_refusals :
    ans (.writeStore [1, 3, 0x18, 0]) base (fun t => t.port.response == { result := .badField })
      && ans (.writeStore [1, 3, 0x18]) base (fun t => t.port.response == { result := .badField })
      && ans (.writeStore ([2, 0, 64] ++ List.replicate 64 0x41))
        (base.setStore { softKeys := (Vector.replicate 12 {}).set 1 { string := List.replicate 257 0x41 } })
        (fun t => t.port.response == { result := .full }) = true := by decide +kernel
theorem test_readStore : ans (.readStore [4, 0]) base (fun t =>
    t.port.response == { result := .done, payload := [4, 0, 0x78, 5] })
      && ans (.readStore [1, 1]) base (fun t => t.port.response == { result := .done, payload := [1, 1, 3, 0, 0] })
      && ans (.readStore [5, 0]) base (fun t => t.port.response == { result := .badField }) = true := by decide +kernel
theorem test_setRemoteMask : ans (.setRemoteMask [1, 0, 0, 1]) base (fun t =>
    t.store.remoteMask == { routes := true, softKeys := false, glyphs := false, energy := true }
      && t.port.response == { result := .done, payload := [1, 0, 0, 1] })
      && ans (.setRemoteMask [2, 0, 0, 0]) base (fun t => t.port.response == { result := .badField }) = true := by decide +kernel
/-- StoreIsWrittenAndRead: short, out of range, good and over-full writes; the Energy values at the ends of their ranges. -/
theorem witness_StoreIsWrittenAndRead :
    checkStore [1, 3] = .short ∧ checkStore [0, 0] = .badField ∧ checkStore [5, 0] = .badField
    ∧ checkStore [4, 0, 99, 0] = .ok (.energy 0 100) ∧ checkStore [4, 7, 0xFF, 0xFF] = .ok (.energy 7 3000)
    ∧ checkStore [4, 8, 8, 0] = .ok (.energy 8 7) ∧ checkStore [4, 9, 32, 0] = .ok (.energy 9 31)
    ∧ checkStore [4, 15, 16, 0] = .ok (.energy 15 15) ∧ base.store.fits (.softKey 0 { string := List.replicate 64 1 }) = true
    ∧ base.store.read 5 0 = none ∧ (base.store.read 4 15).isSome = true := by decide +kernel
/-- StoreIsWrittenAndRead: selectors 1 to 3 at the ends of their indexes, short, with a wrong field, and good. -/
theorem witness_StoreIsWrittenAndRead_selectors :
    checkStore [1, 16, 0, 0] = .badField ∧ checkStore [1, 15, 0] = .short ∧ checkStore [1, 15, 0x18, 0] = .badField
    ∧ checkStore [1, 15, 0, 2] = .badField ∧ checkStore [1, 15, 0x22, 1] = .ok (.route 15 { transmit := true, style := .wide, locked := true })
    ∧ checkStore [2, 0x3C, 0] = .badField ∧ checkStore [2, 0x3B, 2, 0x41] = .short
    ∧ checkStore ([2, 0x3B, 65] ++ List.replicate 65 0x41) = .badField
    ∧ checkStore [2, 0x3B, 1, 0x41] = .ok (.softKey 11 { string := [0x41], route := 3 })
    ∧ checkStore [3, 32] = .badField ∧ checkStore [3, 31, 1] = .short
    ∧ checkStore ([3, 31, 2] ++ List.replicate 24 0) = .badField
    ∧ (match checkStore ([3, 31, 1] ++ List.replicate 24 0) with
      | .ok (.glyph n g) => n == 31 && g.valid
      | _ => false) = true
    ∧ base.store.read 1 16 = none ∧ (base.store.read 1 15).isSome = true ∧ base.store.read 2 12 = none
    ∧ (base.store.read 2 0xFB).isSome = true ∧ base.store.read 3 32 = none ∧ (base.store.read 3 31).isSome = true := by decide +kernel

/-- A payload of one byte is short; a remote route write leaves the other routes (R89, R82). -/
theorem test_store_small :
    checkStore [1] = .short ∧ checkStore [] = .short
    ∧ (base.store.remoteWrite (.route 3 { print := true })).route 2 = base.store.route 2 ∧ (2 : Fin 16) ≠ 3
    ∧ (StoreWrite.softKey 11 { string := [], route := 15 }).names = (2, 11) := by decide +kernel

def routed (e : Route) (c : TextCell) : State := (base.setStore { routes := Route.powerOn.set 3 e }).setRtq [c]

theorem test_router_translates : (routed { controller := true, translate := .upper } { code := 0x61, route := 3, substituted := false }).routeHead.crq
      = [.character 3 0x41 false]
    ∧ (routed { controller := true, translate := .upper } { code := 0x61, route := 3, substituted := true }).routeHead.crq
      = [.character 3 0x61 true] := by decide +kernel
/-- RouterTranslates: each Translate, the codes at the ends of the letters, room at every sink. -/
theorem witness_RouterTranslates :
    (∀ x ∈ [Translate.none, .upper, .sevenBit],
      ((routed { translate := x } { code := 0x7A, route := 3, substituted := false }).store.route 3).translate = x)
    ∧ 0x61 ≤ (0x61 : Byte).toNat ∧ (0x7A : Byte).toNat ≤ 0x7A ∧ 0x7A < (0x7B : Byte).toNat
    ∧ base.arb.p0.cells.length < 160 ∧ base.tx.ttq.length < 128 ∧ base.crq.length < 64 := by decide +kernel
/-- BlockedSinkWaitsOrDrops: each sink blocked, with Drop When Blocked and without (section 6.9). -/
theorem witness_BlockedSinkWaitsOrDrops :
    ((routed { controller := true } { code := 1, route := 3, substituted := false }).setCrq fullCrq).routeTakes = false
    ∧ ((routed { controller := true, dropBlocked := true } { code := 1, route := 3, substituted := false }).setCrq fullCrq).routeTakes = true
    ∧ ((routed { transmit := true } { code := 1, route := 3, substituted := false }).setTx { ttq := List.replicate 128 0 }).routeTakes = false
    ∧ ((routed { print := true } { code := 1, route := 3, substituted := false }).setArb textWaits.arb).routeTakes = false := by
  decide +kernel

/-- BlockedSinkWaitsOrDrops: one sink blocked under Drop When Blocked, the other two with room: these receive the unit (R101). -/
theorem witness_BlockedSinkWaitsOrDrops_room :
    let s := (routed { print := true, transmit := true, controller := true, dropBlocked := true }
      { code := 1, route := 3, substituted := false }).setTx { ttq := List.replicate 128 0 }
    (s.store.route 3).print = true ∧ s.arb.p0.cells.length < 160 ∧ (s.store.route 3).transmit = true ∧ 128 ≤ s.tx.ttq.length
    ∧ (s.store.route 3).controller = true ∧ s.crq.length < 64 ∧ s.routeHead.crq = [.character 3 1 false]
    ∧ s.routeHead.arb.p0.cells.length = 1 ∧ s.routeHead.tx.ttq.length = 128 := by decide +kernel

/-! ## Print ports, jobs and grants -/

/-- A text line ends before a JobStart, at a JobEnd, LF, FF, and CR under New Line, before a character that would pass the right edge, and at a tab beyond it; BS goes back over a character (R116). -/
theorem test_lines_are_cut :
    completeLine .ignore [cell 0x41, { body := .jobStart, entered := 0 }] = some ([cell 0x41], [{ body := .jobStart, entered := 0 }])
    ∧ completeLine .ignore [cell 0x41, { body := .jobEnd, entered := 0 }, cell 1]
      = some ([cell 0x41, { body := .jobEnd, entered := 0 }], [cell 1])
    ∧ completeLine .ignore [cell 0x0D, cell 0x0C, cell 1] = some ([cell 0x0D, cell 0x0C], [cell 1])
    ∧ completeLine .newLine [cell 0x0D, cell 0x0C] = some ([cell 0x0D], [cell 0x0C])
    ∧ completeLine .ignore (List.replicate 32 (cell 0x41)) = none
    ∧ completeLine .ignore (List.replicate 33 (cell 0x41)) = some (List.replicate 32 (cell 0x41), [cell 0x41])
    ∧ completeLine .ignore (List.replicate 32 (cell 0x41) ++ [cell 8, cell 0x42]) = none
    ∧ completeLine .ignore [cell 9, cell 9, cell 9, cell 9] = none
    ∧ completeLine .ignore [cell 9, cell 9, cell 9, cell 9, cell 9] = some ([cell 9, cell 9, cell 9, cell 9, cell 9], []) := by
  decide +kernel
/-- LinesAreCutAndFinished: an eligible port by age and none; an entry to append with room and without; a finish without a JobEnd, with it and the Hold, without the Hold, and with a full CRQ. -/
theorem witness_LinesAreCutAndFinished :
    ((base.setArb { p0 := { cells := [cell 0x41] } }).setNow 2400000).eligible .p0 = true
    ∧ ((base.setArb { p0 := { cells := [cell 0x41] } }).setNow 2399999).eligible .p0 = false
    ∧ closingJob.comp.canAppend = true ∧ (closingJob.setComp { closingJob.comp with rows := List.replicate 4 (.feed 1) }).comp.canAppend = false
    ∧ (closingJob.setComp { line := some { port := .p2, entries := [], jobEnd := true } }).comp.canFinish = true
    ∧ (base.setComp { line := some { port := .p0, entries := [], jobEnd := false } }).comp.canFinish = true
    ∧ base.arb.hold ≠ some .p2 ∧ closingJob.arb.hold = some .p2 ∧ base.crq.length < 64 ∧ 64 ≤ (closingJob.setCrq fullCrq).crq.length
    ∧ (closingJob.setComp { line := some { port := .p2, entries := [], jobEnd := true } }).finishLine.crq
      = [.notice (.jobEvent .p2 .complete)] := by decide +kernel

theorem test_print : ans (.print [0, 1, 0x41]) paused (fun t =>
    t.arb.p2.cells.map PortCell.body == [.jobStart, .char 0x41 .wide, .jobEnd] && t.arb.p2.admitted == 3
      && t.arb.job2 == .none && t.port.response == { result := .done }) = true := by decide +kernel
theorem test_print_refusals :
    ans (.print ([0, 0] ++ List.replicate 65 0x41)) paused (fun t => t.port.response == { result := .badField })
      && ans (.print [4, 0]) paused (fun t => t.port.response == { result := .badField })
      && ans (.print [2, 0, 0x41]) paused (fun t => t.arb.job2 == .discarding && t.port.causes == 4
        && t.crq == [.notice (.jobEvent .p2 .missingFirst)] && t.port.response == { result := .done }) = true := by decide +kernel
/-- A whole job of one space, nothing paused: it is granted at its JobStart and again at once up to its JobEnd, while the rows of feed fit. -/
theorem test_print_composes_a_blank_line : ans (.print [0, 0, 0x20]) base (fun t =>
    t.arb.p2.cells == [] && t.arb.p2.composed == 3 && t.head.state == .advancing && t.head.inHand == .feed 20
      && t.arb.hold == none && t.crq == [.notice (.jobEvent .p2 .complete)]) = true := by decide +kernel
/-- PrintCommandsAct, AdmissionTable: fields past their ranges, a segment that fits and one that does not, and a segment without cells. -/
theorem witness_PrintCommandsAct :
    4 ≤ (4 : Byte).toNat ∧ segment? 3 = some .last ∧ style? 3 = some .inverse
    ∧ 96 < (held (List.replicate 96 (cell 1)) none).arb.p2.cells.length + (admissionCells .opened .middle .normal [1]).length
    ∧ admissionCells .opened .middle .normal [1] ≠ [] ∧ admissionCells .none .middle .normal [1] = []
    ∧ paused.arb.p2.cells.length + (admissionCells .none .whole .normal (List.replicate 64 1)).length ≤ 96
    ∧ (held (List.replicate 96 (cell 1)) none).segmentFits .p2 .middle .normal [1] = false
    ∧ (admission .none .last).1 = .missingFirst ∧ (admission .opened .first).1 = .missingLast := by decide +kernel

theorem test_cancelJob : ans (.cancelJob [2]) (held [cell 0x41, cell 0x42] none) (fun t =>
    t.arb.hold == none && t.arb.p2.cells == [] && t.arb.p2.discarded == 2 && t.arb.job2 == .discarding
      && t.crq == [.notice (.jobEvent .p2 .cancelled)]) = true := by decide +kernel
theorem test_cancelJob_other :
    ans (.cancelJob [1]) paused (fun t => t.port.response == { result := .badField })
      && ans (.cancelJob [3]) paused (fun t => t.port.response == { result := .done } && t.crq == []) = true := by decide +kernel
theorem test_pause_and_resume : ans (.pausePrint []) base (fun t => t.arb.pause) && ans (.resumePrint []) paused (fun t => !t.arb.pause)
    = true := by decide +kernel
/-- PrintCommandsAct: a port without a live job, one whose job holds the path, one whose job does not. -/
theorem witness_PrintCommandsAct_cancel :
    base.oldestJob .p2 = none ∧ (held [cell 1] none).oldestJob .p2 = some ([cell 1], [], true)
    ∧ (paused.setArb { p3 := { cells := [{ body := .jobStart, entered := 0 }] } }).oldestJob .p3
      = some ([{ body := .jobStart, entered := 0 }], [], false)
    ∧ (byteAt [4] 0).toNat ≠ 2 ∧ (byteAt [4] 0).toNat ≠ 3 := by decide +kernel

/-- PrintCommandsAct, AdmissionTable, ArbiterTimersExpire: the notices of a job at a full CRQ (R104, R127): dropped, with Notice Lost, and Job Error all the same where the event raises it. -/
theorem witness_job_notices_at_a_full_crq :
    let s := (held [cell 1] (some 0)).setCrq fullCrq
    64 ≤ s.crq.length ∧ (s.oldestJob .p2).isSome = true
    ∧ (s.cancelJob .p2).crq = fullCrq ∧ (s.cancelJob .p2).port.causes = 2
    ∧ (s.stallJob .p2).crq = fullCrq ∧ (s.stallJob .p2).port.causes = 6
    ∧ (admission (s.arb.job .p3) .middle).1 = .missingFirst ∧ (s.admitSegment .p3 .middle .normal [1]).port.causes = 6
    ∧ (admission (s.arb.job .p2) .first).1 = .missingLast ∧ (s.admitSegment .p2 .first .normal [1]).crq = fullCrq := by
  decide +kernel

theorem test_configPrint : ans (.configPrint [4, 0, 1, 2, 0x5B, 2, 0, 3, 0xFF, 0xFF, 49, 13, 0, 1, 1]) base (fun t =>
    t.arb.settings == { prio0 := 3, prio1 := 0, prio2 := 1, prio3 := 2, partialMs := 600, stallS := 1 } && t.head.speed == 3
      && t.head.dotLimit == 384 && t.head.limit == 384 && t.mon.otLimit == 50
      && t.comp.settings == { crMode := .newLine, lineGap := 12, tear := 255 }) = true := by decide +kernel
theorem test_configPrint_compares : ans (.configPrint [2, 3, 1, 1, 32, 3, 5, 1, 96, 0, 50, 4, 96, 0, 0])
    (base.setMon { base.mon with temp := 51 }) (fun t =>
    t.mon.thermalHold && t.head.state == .hold && t.port.causes == 0x40#10) = true := by decide +kernel
theorem witness_ConfigPrintWrites : 4 ≤ (4 : Byte).toNat ∧ (fin? 4 3).isSome ∧ crMode? 1 = some .newLine ∧ crMode? 2 = none := by
  decide +kernel

/-- ConfigPrintWrites: a stall timer of 3 s at a new timeout of 3 s and of 4 s, one that starts, one that stops, and no Hold. -/
theorem witness_ConfigPrintWrites_stall :
    let s := ((held [] (some 0)).setArb { (held [] (some 0)).arb with pause := false }).setNow 9000000
    s.stallRuns = true ∧ s.arb.stall = some 0 ∧ s.arb.hold = some .p2 ∧ 0 + 3000000 * 3 ≤ s.now ∧ s.now < 0 + 3000000 * 4
    ∧ (s.setArb { s.arb with stall := none }).stallRuns = true ∧ (s.setArb { s.arb with pause := true }).stallRuns = false := by
  decide +kernel
theorem test_configPrint_stalls_at_once :
    let s := ((held [] (some 0)).setArb { (held [] (some 0)).arb with pause := false }).setNow 9000000
    ans (.configPrint [2, 3, 1, 1, 32, 3, 3, 1, 96, 0, 65, 4, 96, 0, 0]) s (fun t =>
      t.arb.hold == none && t.arb.job2 == .discarding && t.crq == [.notice (.jobEvent .p2 .stalled)])
      && ans (.configPrint [2, 3, 1, 1, 32, 3, 4, 1, 96, 0, 65, 4, 96, 0, 0]) s (fun t =>
        t.arb.hold == some .p2 && t.arb.stall == some 0) = true := by decide +kernel
/-- On an empty queue the head cell's age comes before the stall expiry of the same moment (log 33): the age is reached, and the timer is discarded. -/
theorem test_age_before_stall_on_an_empty_queue :
    let s := (((held [] (some 0)).setArb { (held [] (some 0)).arb with
        pause := false, settings := { stallS := 1, partialMs := 500 }
        p2 := { cells := [{ body := .char 0x20 .normal, entered := 1500000 }], admitted := 2, composed := 1 } }).setNow 2999999)
    s.stallEnd = some 3000000 ∧ s.partialDue .p2 = some 3000000
    ∧ (match step s with
      | .next t => t.now == 3000000 && t.arb.hold == some .p2 && t.arb.p2.composed == 2 && t.port.causes == 0
      | .fault _ => false
      | .refused _ => false) = true := by decide +kernel

theorem test_partialLineExpiry : ans (.partialLineExpiry .p1)
    (base.setArb { p1 := { cells := [cell 0x20], admitted := 1 } }) (fun t =>
    t.now == 2400000 && t.arb.p1.composed == 1 && t.arb.lastGranted == .p1 && t.head.inHand == .feed 20) = true := by decide +kernel
theorem test_jobStallExpiry : ans .jobStallExpiry (((held [cell 0x41] (some 0)).setArb
      { (held [cell 0x41] (some 0)).arb with pause := false })) (fun t =>
    t.now == 15000000 && t.arb.hold == none && t.arb.job2 == .discarding && t.arb.p2.discarded == 1 && t.port.causes == 4
      && t.crq == [.notice (.jobEvent .p2 .stalled)]) = true := by decide +kernel
theorem witness_ArbiterTimersExpire :
    ((held [cell 1] (some 0)).arb.port .p2).cells = [cell 1] ∧ (held [cell 1] (some 0)).arb.hold = some .p2
    ∧ (held [cell 1] (some 0)).arb.stall = some 0 := by decide +kernel
/-- ArbiterTimersExpire: the stall timer's conditions true, and each of them false, SETTLE and HOLD among them (R154; log 31). -/
theorem witness_ArbiterTimersExpire_stall :
    let s := base.setArb { hold := some .p2 }
    s.stallRuns = true ∧ (s.setHead { state := .settle, settle := some 0 }).stallRuns = false ∧ (s.setHead { state := .hold }).stallRuns = false
    ∧ base.stallRuns = false
    ∧ (s.setComp closingJob.comp).stallRuns = false ∧ (s.setArb { s.arb with pause := true }).stallRuns = false
    ∧ (s.setMon { s.mon with supplyHold := true }).stallRuns = false
    ∧ (s.setArb { s.arb with p2 := { cells := [cell 0x0A] } }).stallRuns = false
    ∧ s.watchStall.arb.stall = some 0 ∧ (s.setArb { s.arb with stall := some 7, pause := true }).watchStall.arb.stall = none := by
  decide +kernel

/-- Two ports with a complete line: P1 of priority 3 wins; of equals, the next after the last granted. -/
def twoLines (last : PortId) : Arbiter :=
  { p0 := { cells := [cell 0x0A] }, p1 := { cells := [cell 0x0A] }, p2 := { cells := [cell 0x0A] }, lastGranted := last
    settings := { prio0 := 2, prio1 := 2, prio2 := 2 } }
theorem test_grant_order : (base.setArb { twoLines .p3 with settings := {} }).grantChoice = some .p1
    ∧ (base.setArb (twoLines .p3)).grantChoice = some .p0 ∧ (base.setArb (twoLines .p0)).grantChoice = some .p1
    ∧ (base.setArb (twoLines .p2)).grantChoice = some .p0 := by decide +kernel
/-- GrantGoesToBestPort: a choice, none, a Hold with its port eligible and not, and lines with and without a JobStart. -/
theorem witness_GrantGoesToBestPort :
    base.grantChoice = none ∧ base.comp.line = none ∧ base.arb.pause = false ∧ base.arb.hold = none
    ∧ (base.setArb { twoLines .p3 with hold := some .p2 }).grantChoice = some .p2
    ∧ (base.setArb { twoLines .p3 with hold := some .p3 }).grantChoice = none
    ∧ (base.setArb (twoLines .p3)).textLine .p0 = some ([cell 0x0A], [])
    ∧ (base.setArb { p2 := { cells := [{ body := .jobStart, entered := 0 }, cell 1] } }).textLine .p2
      = some ([{ body := .jobStart, entered := 0 }], [cell 1]) := by decide +kernel

/-- A blank line is a Feed Run of band and gap; after FF the Tear Distance is added (section 8.7). -/
theorem test_line_rows : lineEntries base.store {} [cell 0x20, cell 0x0A] = [.feed 20]
    ∧ lineEntries base.store { tear := 255 } [cell 0x20, cell 0x0C] = [.feed 255, .feed 20]
    ∧ lineEntries base.store {} [{ body := .jobStart, entered := 0 }] = [] := by decide +kernel
/-- The substitution box stands for a code of 80h to 9Fh: rows 1 and 14 hold ten dots, rows 2 to 13 two. -/
theorem test_substitution_box : (lineEntries base.store {} [cell 0x80]).length = 16
    ∧ blackCount (groupDots (bandRow (placeLine base.store [cell 0x80]) 1) 0) = 10
    ∧ blackCount (groupDots (bandRow (placeLine base.store [cell 0x80]) 2) 0) = 2 := by decide +kernel
theorem witness_LineRowsAddUp : (∀ c ∈ [({ body := .jobEnd, entered := 0 } : PortCell)], c.isMark = true)
    ∧ (∃ c ∈ [cell 0x20], c.isMark = false) := by decide +kernel

/-- LineRowsAddUp: each kind of code for its pattern, each kind of cell the pen meets, a tall band and a short one. -/
theorem witness_LineRowsAddUp_cells :
    0x21 ≤ (0x21 : Byte).toNat ∧ (0x7E : Byte).toNat ≤ 0x7E ∧ 0xC0 ≤ (0xC0 : Byte).toNat ∧ 0x7F ≤ (0x7F : Byte).toNat
    ∧ (0x9F : Byte).toNat ≤ 0x9F ∧ (0xBF : Byte).toNat = 0xA0 + 31
    ∧ (tabStop 300 = 384 ∧ tabStop 384 = 480) ∧ (0x1F : Byte).toNat < 0x20
    ∧ bandHeight [{ left := 0, style := .tall, pattern := 0 }] = 32 ∧ bandHeight [{ left := 0, style := .wide, pattern := 0 }] = 16
    ∧ endsWithFF [cell 0x41, cell 0x0C] = true ∧ endsWithFF [cell 0x0C, cell 0x41] = false
    ∧ ({ body := .jobStart, entered := 0 } : PortCell).isMark = true := by decide +kernel
/-- An Inverse space is black over its 12 columns; Wide draws a column twice, Tall a row twice, each above white where the band is tall (R132, R135). -/
theorem test_styles_draw :
    bandRow [{ left := 12, style := .inverse, pattern := 0 }] 5 = 0xFFF000
    ∧ bandRow [{ left := 0, style := .wide, pattern := 1#192 <<< 21 }] 5 = 0b1100
    ∧ bandRow [{ left := 0, style := .tall, pattern := 1#192 <<< 21 }] 10 = 0b10
    ∧ bandRow [{ left := 0, style := .tall, pattern := 1#192 <<< 21 }] 11 = 0b10
    ∧ bandRow [{ left := 0, style := .tall, pattern := 0 }, { left := 12, style := .inverse, pattern := 0 }] 15 = 0
    ∧ bandRow [{ left := 0, style := .tall, pattern := 0 }, { left := 12, style := .inverse, pattern := 0 }] 16 = 0xFFF000 := by
  decide +kernel
/-- Section 8.7: BS removes the last placed cell, HT moves to 96, and a BS after it goes back by the removed cell's width. -/
theorem test_pen_walk : ([cell 0x80, cell 0x81, cell 0x08, cell 0x09, cell 0x08, cell 0x82].foldl (placeCell base.store) (0, [])).1 = 96
    ∧ (placeLine base.store [cell 0x80, cell 0x81, cell 0x08, cell 0x09, cell 0x08, cell 0x82]).map Placed.left = [84] := by decide +kernel

/-! ## The Head Drive -/

/-- A row of two phases under way at Speed 1. -/
def firing (phases : List Phase) (phaseEnd periodEnd : Nat) : State :=
  base.setHead { state := .firing, inHand := .dots 1, row := some { phases := phases, phaseEnd := phaseEnd, periodEnd := periodEnd } }
def phase (n : Nat) : Phase := { groups := [], duration := n }

theorem test_phaseEnd_next : ans .phaseEnd (firing [phase 1114, phase 1079] 3342 11250) (fun t =>
    t.head.row == some { phases := [phase 1079], phaseEnd := 6579, periodEnd := 11250 } && t.head.state == .firing) = true := by
  decide +kernel
theorem test_phaseEnd_last : ans .phaseEnd (firing [phase 1079] 6579 11250) (fun t =>
    t.head.state == .advancing && t.now == 6579)
      && ans .phaseEnd (firing [phase 980] 17331 17331) (fun t => t.head.state == .idle && t.head.history == 1) = true := by decide +kernel
theorem test_rowPeriodEnd : ans .rowPeriodEnd (firing [phase 1079] 6579 11250) (fun t =>
    t.head.state == .idle && t.head.history == 1 && t.head.idleSince == some 11250 && t.head.row == none) = true := by decide +kernel
theorem test_rowPeriodEnd_hold : ans .rowPeriodEnd ((firing [] 0 11250).setMon { base.mon with lid := { value := false } }) (fun t =>
    t.head.state == .hold) = true := by decide +kernel
theorem test_settleExpiry : ans .settleExpiry ((base.setHead { state := .settle, settle := some 0 }).setComp { rows := [.feed 3] }) (fun t =>
    t.now == 1500000 && t.head.state == .advancing && t.head.inHand == .feed 3 && t.head.steps == 1) = true := by decide +kernel
/-- HeadDriveMoves: phases ahead, the last phase before and at the row period's end, SETTLE, both kinds of entry, a reset. -/
theorem witness_HeadDriveMoves :
    (firing [phase 1, phase 2] 3 4).head.state = .firing ∧ [phase 1].length ≤ 1 ∧ (6579 : Nat) < 11250
    ∧ (base.setHead { state := .settle, settle := some 0 }).head.settle = some 0
    ∧ (firing [] 0 0).head.inHand = .dots 1 ∧ (base.setHead { inHand := .feed 1 }).head.inHand = .feed 1
    ∧ (base.setHead { clearAtEnd := true }).head.clearAtEnd = true ∧ base.mon.anyHold = false ∧ base.headWork = false
    ∧ (base.setComp { rows := [.feed 1] }).headWork = true
    ∧ (base.setMon { base.mon with supplyHold := true }).mon.anyHold = true := by decide +kernel
/-- HeadDriveMoves: a Feed Run in hand, a Feed Run and a dot row at the head of the Row Queue, the idle timer at 100 ms and past it, a dot row with phases and a phase. -/
theorem witness_HeadDriveMoves_start :
    advancing.head.inHand = .feed 3 ∧ (base.setComp { rows := [.feed 9, .dots 1] }).comp.rows = [.feed 9, .dots 1]
    ∧ (base.setComp { rows := [.dots 1] }).comp.rows = [.dots 1] ∧ base.head.inHand = .none ∧ base.head.idleSince = none
    ∧ ((base.setHead { history := 1, idleSince := some 0 }).setNow 300000).rowHistory = 1
    ∧ ((base.setHead { history := 1, idleSince := some 0 }).setNow 300001).rowHistory = 0
    ∧ rowPhases base.store 25 false 720 96 1 0 ≠ []
    ∧ [groupFire base.store 920 1 0 0] ≠ [] := by decide +kernel
theorem test_dot_row_starts : (base.startDotRow 1).head.steps = 1 ∧ (base.startDotRow 1).head.state = .firing
    ∧ (base.startDotRow 1).mon.supplyOwed = false ∧ ((base.setNow 5).startDotRow 1).mon.supplyOwed = true := by decide +kernel

/-- Section 9.9, nominal supply: 920, 920, 1094, and the widths of the calibrations 0, 3 and 2. -/
def calibrated : Store := { energy := (Energy.powerOn.set 12 3).set 14 2 }
theorem test_widths_nominal : temperatureWidth calibrated 25 = 920 ∧ darknessWidth calibrated 25 false = 920
    ∧ voltageWidth 920 660 = 1094
    ∧ [0, 2, 4].map (fun g => (coldWidth calibrated 1094 g, hotWidth calibrated 1094 g)) = [(1094, 820), (1042, 781), (1059, 794)] := by
  decide +kernel
/-- Section 9.9, limits: 1400, 1662, 2747, and both widths 2000. -/
theorem test_widths_limits : let st : Store := { energy := Energy.powerOn.set 8 7 }
    temperatureWidth st (-20) = 1400 ∧ darknessWidth st (-20) false = 1662 ∧ voltageWidth 1662 560 = 2747
    ∧ coldWidth st 2747 0 = 2000 ∧ hotWidth st 2747 0 = 2000 ∧ darknessWidth calibrated 25 true = 920 := by decide +kernel
/-- Dot 1 is cold and dot 2 hot (black in the history): both on from the start, the hot one off at 820 µs, the cold one at 1094 µs; dot 3 is white (R148). -/
def twoDots : State := ((base.setMon { base.mon with samples := { a := 660, b := 660, c := 660, d := 660 } }).setStore calibrated).setHead
  { history := 4, idleSince := some 0 } |>.startDotRow 6
theorem test_dots_are_driven :
    [0, 2459, 2460, 3281, 3282].map (fun n => ((twoDots.setNow n).dotOn 1, (twoDots.setNow n).dotOn 2, (twoDots.setNow n).dotOn 3))
      = [(true, true, false), (true, true, false), (true, false, false), (true, false, false), (false, false, false)] := by
  decide +kernel
/-- StrobeWidthsAreComputed: a group with a cold dot, one all hot, and one without a black dot; a row that fires with its first phase, and a part that fires none. -/
theorem witness_StrobeWidthsAreComputed_dots :
    (6 : DotRow).getLsbD 1 = true ∧ (4 : DotRow).getLsbD 1 = false ∧ (groupFire calibrated 1094 6 4 0).strobe = 1094
    ∧ (groupFire calibrated 1094 6 6 0).strobe = 820 ∧ (firingGroups calibrated 1094 6 4).length = 1
    ∧ twoDots.head.state = .firing ∧ (twoDots.head.row.map fun r => r.phases.length) = some 1
    ∧ (twoDots.head.row.map RowRun.phaseEnd) = some 3342 ∧ base.head.state ≠ .firing := by decide +kernel
/-- Section 9.9: the packing at L of 96, of 48 and of 64. -/
def groups99 : List GroupFire :=
  [(0, 10), (2, 40), (3, 30), (4, 64), (5, 5)].map fun x => { group := x.1, black := x.2, dots := 0, coldDots := 0, cold := 0, hot := 0, strobe := 0 }
theorem test_packing : [96, 48, 64].map (fun l => (packGroups l [] groups99).map blackOf)
    = [[80, 69], [10, 40, 30, 64, 5], [50, 30, 64, 5]] := by decide +kernel
/-- StrobeWidthsAreComputed, EffectiveDotLimit, PhasesKeepDotLimit: temperatures at the ends of the curve and on it, a Darkness, the supplies where the clauses meet, a started row. -/
theorem witness_StrobeWidthsAreComputed :
    (-11 : Int) < -10 ∧ (25 : Int) = 10 * ((3 : Nat) : Int) - 10 + ((5 : Nat) : Int) ∧ (60 : Int) = 10 * ((7 : Nat) : Int) - 10
    ∧ calibrated.darkness = 4 ∧ voltageWidth 920 560 = 920 * 518400 / (560 * 560) ∧ voltageWidth 920 860 = 920 * 518400 / (860 * 860)
    ∧ voltageWidth 920 720 = 920 ∧ (base.startDotRow 1).head.row.isSome = true := by decide +kernel
theorem witness_EffectiveDotLimit :
    (base.setPins { base.pins with therm := 200 }).readThermistor.mon.fallback ≠ (base.setPins { base.pins with therm := 200 }).mon.fallback
    ∧ dotLimitOf 96 619 false = 48 ∧ dotLimitOf 16 619 false = 16 ∧ dotLimitOf 96 620 true = 64 := by decide +kernel
theorem witness_PhasesKeepDotLimit : packGroups 48 [] groups99
    = [groups99.take 1] ++ [groups99[1]] :: [groups99[2]] :: [[groups99[3]], [groups99[4]]] := by decide +kernel

/-- StrobeWidthsAreComputed, the history (R147): at 100 ms it stands, one unit later it is white; a Dot Row's end keeps its dots, a white row's clears them. -/
theorem witness_StrobeWidthsAreComputed_history :
    let s := base.setHead { history := 5, idleSince := some 0 }
    s.rowHistory = 5 ∧ (s.setNow 300000).rowHistory = 5 ∧ (s.setNow 300001).rowHistory = 0
    ∧ (s.setHead { history := 5 }).rowHistory = 5 ∧ s.head.clearAtEnd = false
    ∧ (({ inHand := .dots 6 } : Head).rowEnded 7).history = 6 ∧ (({ inHand := .dots 6 } : Head).rowEnded 7).idleSince = some 7
    ∧ (({ inHand := .feed 3, history := 5 } : Head).rowEnded 7).history = 0 := by decide +kernel

/-! ## The Monitor -/

theorem test_sensorInputChange : ans (.sensorInputChange .lid false) base (fun t =>
    t.mon.lid == { value := true, stable := some 0 } && !t.mon.paperHold)
      && ans (.sensorInputChange .lid true) (base.setMon { base.mon with lid := { value := true, stable := some 0 } }) (fun t =>
        t.mon.lid == { value := true }) = true := by decide +kernel
theorem test_sensorStableExpiry : ans (.sensorStableExpiry .lid)
    ((base.setMon { base.mon with lid := { value := true, stable := some 0 } }).setPins { base.pins with lid := false }) (fun t =>
    t.now == 60000 && t.mon.paperHold && t.head.state == .hold && t.port.causes == 0x100#10) = true := by decide +kernel
/-- SensorInputsAreSensed: a level that differs, with the timer off and on, one that agrees, and a running timer. -/
theorem witness_SensorInputsAreSensed :
    true = (base.mon.sensed .lid).value ∧ false ≠ (base.mon.sensed .lid).value ∧ (base.mon.sensed .lid).stable = none
    ∧ ((base.setMon { base.mon with lid := { value := true, stable := some 0 } }).mon.sensed .lid).stable = some 0
    ∧ base.head.state = .idle ∧ base.mon.paperHold = false := by decide +kernel

/-- Section 10.7: the sag, at 0 ms and at 6 ms. -/
def sag (a b c d : Nat) : State :=
  (base.setMon { base.mon with samples := { a := a, b := b, c := c, d := d } }).setHead { state := .advancing }
theorem test_supplySample : ans (.supplySample 600) (sag 630 628 626 624) (fun t =>
    t.mon.supply == 619 && t.head.limit == 48 && !t.mon.supplyHold && t.now == 6000)
      && ans (.supplySample 530) (sag 624 600 560 540) (fun t =>
        t.mon.supply == 557 && t.mon.supplyHold && t.port.causes == 0x80#10 && t.head.state == .advancing) = true := by decide +kernel
/-- SupplyHoldFollowsV: a sample owed; IDLE in Run and in Doze; working; a move of the Head Drive out of IDLE with no sample taken at that moment and with one, and a move within. -/
theorem witness_SupplyHoldFollowsV_moments :
    (base.setMon { base.mon with supplyOwed := true }).supplyDue = 0 ∧ base.supplyDue = 300000 ∧ dozing.supplyDue = 3000000
    ∧ advancing.supplyDue = 6000 ∧ ((base.setNow 5).moveHead .hold).mon.supplyOwed = true ∧ (base.moveHead .hold).mon.supplyOwed = false
    ∧ ((advancing.setNow 5).moveHead .hold).mon.supplyOwed = false := by decide +kernel
/-- SupplyHoldFollowsV: the hold raised at 559, kept at 589, cleared at 590. -/
theorem witness_SupplyHoldFollowsV : [559, 560].map (supplyHoldAfter false) = [true, false]
    ∧ [589, 590].map (supplyHoldAfter true) = [true, false] := by decide +kernel

/-- SupplyHoldFollowsV, the Head Drive (R153, R154): a sag holds IDLE and SETTLE and lets FIRING run on; its end takes HOLD to SETTLE unless the lid is open. -/
theorem witness_SupplyHoldFollowsV_head :
    let low := (base.setMon { base.mon with samples := { a := 500, b := 500, c := 500, d := 500 } }).setPins { base.pins with supply := 500 }
    let up := ((base.setMon { base.mon with supplyHold := true }).setHead { state := .hold }).setNow 9
    base.head.state = .idle ∧ low.sampleSupply.mon.anyHold = true ∧ low.sampleSupply.head.state = .hold
    ∧ (low.setHead { state := .settle, settle := some 0 }).sampleSupply.head = { state := .hold, limit := 48 }
    ∧ (low.setHead { state := .hold }).sampleSupply.head.state = .hold
    ∧ (low.setHead { state := .firing }).sampleSupply.head = { state := .firing, limit := 48 }
    ∧ up.sampleSupply.mon.anyHold = false ∧ up.sampleSupply.head = { state := .settle, settle := some 9 }
    ∧ (up.setMon { up.mon with lid := { value := false } }).sampleSupply.head = { state := .hold }
    ∧ base.sampleSupply.head = base.head := by decide +kernel

/-- Section 10.7: 66 raises the hold, 200 leaves it and enters Sensor Fallback, 56 ends both. -/
theorem test_thermistorReading : ans (.thermistorReading 66) base (fun t =>
    t.mon.temp == 66 && t.mon.thermalHold && t.head.state == .hold && t.now == 150000)
      && ans (.thermistorReading 200) (base.setMon { base.mon with temp := 66, thermalHold := true }) (fun t =>
        t.mon.temp == 66 && t.mon.fallback && t.mon.thermalHold && t.port.causes == 0x200#10 && t.head.limit == 64) = true := by
  decide +kernel
theorem test_thermistorReading_ends_fallback : ans (.thermistorReading 56)
    (base.setMon { base.mon with temp := 66, thermalHold := true, fallback := true }) (fun t =>
    t.mon.temp == 56 && !t.mon.fallback && !t.mon.thermalHold && t.head.limit == 96) = true := by decide +kernel
/-- ThermistorIsRead: a reading owed and none; a move of the Head Drive out of IDLE in Doze and in Run. -/
theorem witness_ThermistorIsRead_moments :
    (base.setMon { base.mon with thermOwed := true }).thermDue = 0 ∧ base.thermDue = 150000
    ∧ ((dozing.setNow 5).moveHead .hold).mon.thermOwed = true ∧ ((base.setNow 5).moveHead .hold).mon.thermOwed = false
    ∧ (dozing.moveHead .hold).mon.thermOwed = false := by decide +kernel
/-- ThermistorIsRead: readings are taken in Run, not in Doze with the Head Drive IDLE; readings at the ends of the range. -/
theorem witness_ThermistorIsRead :
    base.mon.power = .run ∧ dozing.mon.power = .doze ∧ dozing.head.state = .idle
    ∧ [-31, -30, 100, 101].map validReading = [false, true, true, false] := by decide +kernel

/-- ThermistorIsRead, ConfigPrintWrites: the Head Drive at a reading of 66 °C, at one of 57, at an invalid one, and under a new OT Limit. -/
theorem test_thermal_hold_moves_the_head :
    (base.setPins { base.pins with therm := 66 }).readThermistor.head.state = .hold
    ∧ (((base.setMon { base.mon with thermalHold := true }).setHead { state := .hold }).setPins { base.pins with therm := 57 }).readThermistor.head
      = { state := .settle, settle := some 0 }
    ∧ ((base.setHead { state := .settle, settle := some 3 }).setPins { base.pins with therm := 101 }).readThermistor.head
      = { state := .settle, settle := some 3, limit := 64 }
    ∧ ((base.setMon { base.mon with temp := 51 }).configPrint
        { arbiter := {}, composer := {}, speed := 2, dotLimit := 96, otLimit := 50 }).head.state = .hold := by decide +kernel

/-! ## Invariants -/

/-- StepKeepsCapacities: a state with a full CRQ keeps to every capacity, and its step answers a next state. -/
theorem witness_StepKeepsCapacities : (base.setCrq fullCrq).Sound ∧ ∃ t, step ((base.setCrq fullCrq).setPending [.lineOn []]) = .next t :=
  ⟨⟨by decide +kernel, by decide +kernel, by decide +kernel, by decide +kernel, by decide +kernel,
    ⟨by decide +kernel, rfl⟩, ⟨by decide +kernel, rfl⟩, ⟨by decide +kernel, rfl⟩, ⟨by decide +kernel, rfl⟩,
    by decide +kernel, ⟨by decide +kernel, by decide +kernel⟩⟩, _, rfl⟩
/-- StepKeepsLineStates: TA1200 ONLINE with its direction state, and its step answers a next state. -/
theorem witness_StepKeepsLineStates : (online1200 .talking {}).LineOk ∧ ∃ t, step ((online1200 .talking {}).setPending [.lineOn []]) = .next t :=
  ⟨⟨rfl, fun h => absurd h (by decide +kernel), fun h => absurd h (by decide +kernel), fun h => absurd h (by decide +kernel),
    fun h => absurd rfl h⟩, _, rfl⟩
/-- NoRowStartsUnderHold: a step that gives a paper step. -/
theorem witness_NoRowStartsUnderHold : (match step ((base.setComp { rows := [.feed 1] }).setPending [.noneCommand []]) with
    | .next t => base.head.steps < t.head.steps && !t.mon.anyHold
    | .fault _ => false
    | .refused _ => false) = true := by decide +kernel

end Sys2Proof.Tests
end

section
/-!
SUPPORT. A character that reaches its stop bit in time is handed on, and what the header byte does to the record under assembly (R14, R16, R24); then what the decision of a sound record leaves of the engine, and what in it depends on the station (R30, R41).
-/

namespace Sys2Proof.Machine

/-! ## A received character is handed on (R14, R16, R22) -/

theorem exec_characterReceived (data : Byte) (parity stop : Bool) (edge : Option Nat) (s : State) :
    exec (.characterReceived data parity stop edge) s = execCharacterReceived data parity stop edge s := rfl

/-- While the line receives, a character completes with what its stop bit does. -/
theorem completes_characterReceived {s : State} (receiving : s.line.receiving = true)
    (data : Byte) (parity stop : Bool) (edge : Option Nat) :
    Completes (.characterReceived data parity stop edge) s (s.receive data parity stop edge) :=
  ⟨_, by rw [exec_characterReceived, execCharacterReceived, State.event, if_pos receiving], settled_finishEvent _⟩

theorem releaseHeld_of_not_held {s : State} (held : s.line.held = false) : s.releaseHeld = s := by
  simp [State.releaseHeld, held]

/-- After mark, with no character held and its start edge in time, a character that is not space throughout is handed on, and that is all. -/
theorem receive_in_time {s : State} {data : Byte} {parity stop : Bool}
    (mark : s.line.inBreak = false) (held : s.line.held = false) (inTime : s.gapBeforeCharacter = false)
    (space : isAllSpace s.line.settings.format data parity stop = false) (edge : Option Nat) :
    s.receive data parity stop edge = s.handOn (receivedCode s.line.settings.format data)
      (isMarked s.line.settings.format data parity stop) edge := by
  simp [State.receive, mark, releaseHeld_of_not_held held, State.expireGap, inTime, space]

theorem handOn_in_record {s : State} (inRecord : s.engine.rx ≠ .text) (c : Byte) (marked : Bool) (edge : Option Nat) :
    s.handOn c marked edge = s.recordCharacter c marked edge := if_neg inRecord

theorem recordCharacter_of_marked (s : State) (c : Byte) (edge : Option Nat) :
    s.recordCharacter c true edge = s.abandon .framing := rfl

theorem recordCharacter_header {s : State} (header : s.engine.rx = .header) (c : Byte) (edge : Option Nat) :
    s.recordCharacter c false edge = s.takeHeader c := by
  simp [State.recordCharacter, header]

/-! ## The header byte (R24) -/

/-- Both check bits agree with the kind and the length code. -/
theorem headerOk_iff (b : Byte) : headerOk b = true ↔
    b.getLsbD 6 = checkC0 (headerKind b) (headerLenCode b) ∧ b.getLsbD 7 = checkC1 (headerKind b) (headerLenCode b) := by
  simp [headerOk]

theorem takeHeader_of_ok {c : Byte} (ok : headerOk c = true) (s : State) :
    s.takeHeader c = s.assemble .station { s.engine.record with
      kind := headerKind c, lenCode := headerLenCode c, crc := crcByte s.engine.record.crc c } := if_pos ok

theorem takeHeader_of_not_ok {c : Byte} (bad : ¬ headerOk c = true) (s : State) : s.takeHeader c = s.abandon .header :=
  if_neg bad

/-- The header byte of a kind and a length code passes the check and reads back as that kind and length code. -/
theorem headerByte_reads_back : ∀ kind len : BitVec 3, headerOk (headerByte kind len) = true
    ∧ headerKind (headerByte kind len) = kind ∧ headerLenCode (headerByte kind len) = len := by decide

/-! ## What an action leaves of the engine (R36 to R40) -/

@[simp] theorem raise_engine (s : State) (c : Cause) : (s.raise c).engine = s.engine := rfl
@[simp] theorem pushCrq_engine (s : State) (e : CrqEntry) : (s.pushCrq e).engine = s.engine := rfl
@[simp] theorem putCells_engine (s : State) (p : PortId) (bodies : List CellBody) : (s.putCells p bodies).engine = s.engine := rfl
@[simp] theorem removeCells_engine (s : State) (p : JobPort) (gone rest : List PortCell) :
    (s.removeCells p gone rest).engine = s.engine := rfl
@[simp] theorem releaseHold_engine (s : State) : s.releaseHold.engine = s.engine := rfl

@[simp] theorem post_engine (s : State) (n : Notice) : (s.post n).engine = s.engine := by
  unfold State.post; split <;> rfl

@[simp] theorem flowCompare_engine (s : State) : s.flowCompare.engine = s.engine := by
  unfold State.flowCompare; split <;> rfl

@[simp] theorem pushRtq_engine (s : State) (cs : List TextCell) : (s.pushRtq cs).engine = s.engine := by
  simp [State.pushRtq]

@[simp] theorem admissionNotice_engine (s : State) (p : JobPort) (a : Admission) : (s.admissionNotice p a).engine = s.engine := by
  cases a <;> simp [State.admissionNotice]

@[simp] theorem admitSegment_engine (s : State) (p : JobPort) (seg : Segment) (style : Style) (codes : List Byte) :
    (s.admitSegment p seg style codes).engine = s.engine := by
  simp [State.admitSegment]

@[simp] theorem cancelJob_engine (s : State) (p : JobPort) : (s.cancelJob p).engine = s.engine := by
  unfold State.cancelJob
  split
  · rfl
  · rw [post_engine]
    split <;> split <;> rfl

@[simp] theorem act_engine (s : State) (r : Assembly) (filter : Nat) (a : RecordAction) :
    (s.act r filter a).engine = s.engine := by
  cases a <;> simp [State.act]

/-! ## Replies (R41) -/

/-- A broadcast record is not answered. -/
theorem answer_broadcast (s : State) (r : Assembly) (o : OutRecord) : s.answer { r with station := 31 } o = s := rfl

/-- An answer replaces the Response Slot at most. -/
theorem answer_eq (s : State) (r : Assembly) (o : OutRecord) :
    s.answer r o = s.setEngine { s.engine with reply := (s.answer r o).engine.reply } := by
  unfold State.answer
  split <;> rfl

/-! ## The decision and the station (R30) -/

theorem addressed_iff (r : Assembly) (own : Fin 31) :
    r.addressed own = true ↔ r.stationUpper = false ∧ (r.station.toNat = own.val ∨ r.station.toNat = 31) := by
  simp [Assembly.addressed, BitVec.toNat_eq]

theorem decide_not_addressed {s : State} {r : Assembly} (other : r.addressed s.line.settings.station = false) : s.decide r = s := by
  simp [State.decide, other]

theorem governs_station (e : Engine) (r : Assembly) (x : BitVec 5) : e.governs { r with station := x } = e.governs r := rfl

theorem examine_station (s : State) (r : Assembly) (x : BitVec 5) : s.examine { r with station := x } = s.examine r := rfl

theorem act_station (s : State) (r : Assembly) (x : BitVec 5) (filter : Nat) (a : RecordAction) :
    s.act { r with station := x } filter a = s.act r filter a := by
  cases a <;> rfl

/-- Where a record is addressed, what it does and the reply made for it are the same for every station: the station only says whether that reply is placed. What is done leaves the engine alone. -/
theorem decide_of_addressed (s : State) (r : Assembly) : ∃ (t : State) (o : OutRecord), t.engine = s.engine
    ∧ ∀ x : BitVec 5, ({ r with station := x } : Assembly).addressed s.line.settings.station = true →
        s.decide { r with station := x } = t.answer { r with station := x } o := by
  by_cases refused : (s.engine.governs r).1 = .refuse
  · exact ⟨s, .nak .refused r.kind, rfl, fun x own => by
      simp only [State.decide, if_pos own, governs_station, refused, if_true]⟩
  · cases examined : s.examine r with
    | inl reason =>
      exact ⟨s, .nak reason r.kind, rfl, fun x own => by
        simp only [State.decide, if_pos own, governs_station, refused, if_false, examine_station, examined]⟩
    | inr a =>
      -- the state and the reply are those the definition gives, read at this record
      refine ⟨_, _, ?_, fun x own => by
        simp only [State.decide, if_pos own, governs_station, refused, if_false, examine_station, examined, act_station]; rfl⟩
      split <;> simp

/-- A record is decided in the reception state the engine is in: the decision replaces the Response Slot at most. -/
theorem decide_rx (s : State) (r : Assembly) : (s.decide r).engine.rx = s.engine.rx := by
  cases own : r.addressed s.line.settings.station with
  | false => rw [decide_not_addressed own]
  | true =>
    obtain ⟨t, o, engine, decided⟩ := decide_of_addressed s r
    rw [show s.decide r = t.answer r o from decided r.station own, answer_eq, setEngine_engine, engine]

/-- A record that ends leaves the engine in TEXT, whatever is decided of it (R27). -/
theorem dropRecord_decide_rx (s : State) (r : Assembly) : (s.dropRecord.decide r).engine.rx = .text := by
  rw [decide_rx]; rfl

/-- Settles O27: the character is handed on to HEADER, where its mark and its two check bits decide; every kind and length code is read back from the header byte the part itself sends for them. -/
theorem headerByteIsChecked : Obligations.HeaderByteIsChecked := by
  refine ⟨?_, by decide, by decide, by decide, by decide, by decide, by decide, by decide, by decide,
    fun kind len => ⟨headerByte kind len, headerByte_reads_back kind len⟩, by decide⟩
  intro data parity stop edge s f c kind len good receiving mark held header inTime space
  have inRecord : s.engine.rx ≠ .text := by simp [header]
  have completes : Completes (.characterReceived data parity stop edge) s
      (s.recordCharacter c (isMarked f data parity stop) edge) := by
    rw [← handOn_in_record inRecord, ← receive_in_time mark held inTime space]
    exact completes_characterReceived receiving data parity stop edge
  have good_iff : headerOk c = true ↔ good := headerOk_iff c
  refine ⟨fun marked => ?_, fun unmarked bad => ?_, fun unmarked ok => ?_⟩
  · rwa [marked, recordCharacter_of_marked] at completes
  · rwa [unmarked, recordCharacter_header header, takeHeader_of_not_ok (mt good_iff.mp bad)] at completes
  · rwa [unmarked, recordCharacter_header header, takeHeader_of_ok (good_iff.mpr ok)] at completes

/-- Settles O30: the decision of an addressed record is one state and one reply, whatever its station; only the own station has the reply placed. -/
theorem addressDecidesRecord : Obligations.AddressDecidesRecord := by
  refine ⟨addressed_iff, fun s r other => ⟨decide_not_addressed other, dropRecord_decide_rx s r⟩, fun s r upper station => ?_⟩
  obtain ⟨t, o, engine, decided⟩ := decide_of_addressed s r
  have broadcast : s.decide { r with station := 31 } = t :=
    (decided 31 ((addressed_iff _ _).mpr ⟨upper, .inr rfl⟩)).trans (answer_broadcast t r o)
  have own : s.decide r = t.answer r o := decided r.station ((addressed_iff _ _).mpr ⟨upper, .inl station⟩)
  refine ⟨by rw [broadcast, engine], ?_, dropRecord_decide_rx s r⟩
  rw [broadcast, own, ← answer_eq]

end Sys2Proof.Machine
end

section
/-!
SUPPORT. The Modifier State and what follows it: the modifiers held and the layer they select (R66), what a release leaves of the keyboard (R69, R70), the event of a repeat (R69), and what an admitted press makes of the keyboard (R65, R66, R68).
-/

namespace Sys2Proof.Machine

/-! ## The Modifier State and the layer (R66) -/

theorem held_iff (k : Keyboard) (m : ModKind) : k.held m = true ↔ ∃ d ∈ k.down, d.modifier = some m := by
  simp [Keyboard.held]

section
variable {k : Keyboard}

theorem layer_of_function (function : k.held .function = true) : k.layer = .function := by
  simp [Keyboard.layer, function]

theorem layer_of_control (function : k.held .function = false) (control : k.held .control = true) :
    k.layer = .control := by
  simp [Keyboard.layer, function, control]

theorem layer_of_shift_or_lock (function : k.held .function = false) (control : k.held .control = false)
    (shift : k.held .shift = true ∨ k.lock = true) : k.layer = .shift := by
  simp [Keyboard.layer, function, control, shift]

theorem layer_of_no_modifier (function : k.held .function = false) (control : k.held .control = false)
    (shift : k.held .shift = false) (lock : k.lock = false) : k.layer = .plain := by
  simp [Keyboard.layer, function, control, shift, lock]

end

/-! ## A release (R69, R70) -/

/-- A release stops the repeat at most. -/
theorem stopRepeat_eq_or (k : Keyboard) (key : Fin 96) :
    k.stopRepeat key = k ∨ k.stopRepeat key = { k with repeating := none } := by
  unfold Keyboard.stopRepeat
  split
  · split
    · exact .inr rfl
    · exact .inl rfl
  · exact .inl rfl

/-- A release clears the count, takes the key out of the Down Set, and stops the repeat at most. -/
theorem release_eq (k : Keyboard) (key : Fin 96) : ∃ rep, (rep = k.repeating ∨ rep = none) ∧
    k.release key = { k with
      counts := k.counts.set key.val 0, down := k.down.filter (fun d => d.key ≠ key), repeating := rep } := by
  have filters : (fun d : DownKey => d.key != key) = fun d => decide (d.key ≠ key) := by
    funext d
    by_cases same : d.key = key
    · simp only [same, bne_self_eq_false, ne_eq, not_true_eq_false, decide_false]
    · simp only [bne_iff_ne.mpr same, ne_eq, same, not_false_eq_true, decide_true]
  unfold Keyboard.release
  rw [filters]
  obtain same | stopped := stopRepeat_eq_or (k.clearCount key) key
  · exact ⟨_, .inl rfl, by rw [same]; rfl⟩
  · exact ⟨_, .inr rfl, by rw [stopped]; rfl⟩

/-! ## A repeat (R69) -/

/-- While fewer than four events wait, a repeat makes an event with the layer of its press. -/
theorem repeatExpiry_of_room {s : State} (room : s.keys.events.length < 4) (r : RepeatKey) :
    s.repeatExpiry r = s.setKeys { s.keys with
      repeating := some { r with due := s.now + s.keys.settings.intervalMs * Config.unitsPerMs }
      events := s.keys.events ++ [{ key := r.key, layer := r.layer, kind := .repeated }] } :=
  if_pos room

/-! ## An admitted press (R65, R66, R68, R78) -/

/-- Only a Modifier entry is changed by the layer it is read in (R72). -/
theorem layerAction_eq_localAction {l : Layer} {a : KeyAction} {x : LocalAction}
    (h : layerAction l a = .localAction x) : a = .localAction x := by
  unfold layerAction at h
  split at h
  · cases h
  · cases h
  · exact h

theorem offerPress_setKeys_of_room {k : Keyboard} (s : State) (e : KeyEvent) (room : k.events.length < 24) :
    (s.setKeys k).offerPress e = s.setKeys { k with events := k.events ++ [e] } :=
  if_pos room

/-- A modifier's press enters the Down Set as that modifier and makes no event; a Lock key toggles Lock. -/
theorem admitPress_of_modifier {s : State} {key : Fin 96} {m : ModKind} (entry : s.keys.entry key .plain = .modifier m) :
    s.admitPress key = (s.wake .keyPress).setKeys
      { s.keys.enterDown key (some m) with lock := s.keys.lock ^^ (m == .lock) } := by
  simp only [State.admitPress, wake_keys, entry]
  rfl

/-- An ordinary press that is not carried out at once enters the Down Set, arms its repeat and is offered as an event, both with the layer of that moment. -/
theorem admitPress_of_ordinary {s : State} {key : Fin 96} (ordinary : ∀ m, s.keys.entry key .plain ≠ .modifier m)
    (notBreak : s.keys.entry key s.keys.layer ≠ .localAction .sendBreak)
    (notCancel : s.keys.entry key s.keys.layer ≠ .localAction .cancelPrint) :
    s.admitPress key = ((s.wake .keyPress).setKeys { s.keys.enterDown key none with
      repeating := some { key := key, layer := s.keys.layer, due := s.now + s.keys.settings.delayMs * Config.unitsPerMs } }).offerPress
        { key := key, layer := s.keys.layer, kind := .press } := by
  -- `ordinary` leaves the branch of a press that is no modifier's
  simp only [State.admitPress, wake_keys, wake_now]
  split
  case h_1 atOnce => exact absurd (layerAction_eq_localAction atOnce) notBreak
  case h_2 atOnce => exact absurd (layerAction_eq_localAction atOnce) notCancel
  case h_3 => rfl

/-- Settles O38: the Modifier State is read from the Down Set, so the layer an admitted press carries is that of its moment; a repeat takes its layer from the press that armed it. -/
theorem layerFollowsModifiers : Obligations.LayerFollowsModifiers := by
  refine ⟨held_iff,
    fun k => ⟨layer_of_function, layer_of_control, layer_of_shift_or_lock, layer_of_no_modifier⟩,
    fun k key => ?release, fun s r room => by rw [repeatExpiry_of_room room]; rfl,
    fun s key m _ entry => ?modifier, fun s key layer _ ordinary atMoment notBreak notCancel room => ?ordinary⟩
  case release =>
    obtain ⟨rep, repeating, released⟩ := release_eq k key
    rw [released]
    exact ⟨rfl, rfl, rfl, repeating⟩
  case modifier =>
    have toggles : (s.keys.lock ^^ (m == .lock)) = if m = .lock then !s.keys.lock else s.keys.lock := by
      split
      case isTrue isLock => simp [isLock]
      case isFalse other => simp [beq_false_of_ne other]
    rw [admitPress_of_modifier entry]
    exact ⟨rfl, toggles, rfl, rfl⟩
  case ordinary =>
    subst atMoment
    rw [admitPress_of_ordinary ordinary notBreak notCancel, offerPress_setKeys_of_room _ _ ?room, Nat.mul_comm 3000]
    case room => exact room
    exact ⟨rfl, rfl, rfl, rfl⟩

end Sys2Proof.Machine
end

section
/-!
SUPPORT. Which causes the Monitor's lasting conditions name, and so which are clear after power-on (R107, R163, R176); then the route's Translate, code by code (R98), what a delivery does when every sink has room, and what the Router's take of the head cell leaves then (R97 to R99).
-/

namespace Sys2Proof.Machine

/-! ## The causes of lasting conditions (R163) -/

theorem namesCause_or (x y : BitVec 10) (c : Cause) : namesCause (x ||| y) c = (namesCause x c || namesCause y c) := by
  simp [namesCause_eq_getLsbD]

/-- A cause whose condition is `b` is named while the condition lasts, and no other is. -/
theorem namesCause_mask_if (b : Bool) (d c : Cause) :
    namesCause (if b then d.mask else 0) c = (b && decide (c = d)) := by
  have same : c.bit = d.bit ↔ c = d := ⟨Cause.bit_inj, congrArg Cause.bit⟩
  cases b <;> simp [namesCause_eq_getLsbD, Cause.mask_getLsbD, same]

theorem namesCause_lasting (m : Monitor) (c : Cause) : namesCause m.lasting c =
    ((m.thermalHold && decide (c = .thermalHold)) || (m.supplyHold && decide (c = .supplyHold))
      || (m.paperHold && decide (c = .paperHold)) || (m.fallback && decide (c = .sensorFallback))) := by
  simp only [Monitor.lasting, namesCause_or, namesCause_mask_if]

/-! ## Power-on (R107, R176) -/

theorem exec_powerOn (paper lid : Bool) (v : BitVec 16) (r : Int) (s : State) :
    exec (.powerOn paper lid v r) s = .next (s.powerOn paper lid v r) := rfl

/-- The causes after power-on are those of the Monitor's first readings. -/
theorem powerOn_causes (paper lid : Bool) (v : BitVec 16) (r : Int) (s : State) :
    (s.powerOn paper lid v r).port.causes = (Monitor.powerOn s.now paper lid v r).lasting := rfl

/-- Settles O5: the queues of power-on are those of the reset state, and its causes are the Monitor's lasting ones, none of which is of another block. -/
theorem powerOnEmptiesTextQueues : Obligations.PowerOnEmptiesTextQueues := by
  intro paper lid v r s
  refine ⟨_, exec_powerOn paper lid v r s, rfl, rfl, rfl, fun c ofAnotherBlock => ?_⟩
  rw [powerOn_causes, namesCause_lasting]
  have notMonitors : c ≠ .thermalHold ∧ c ≠ .supplyHold ∧ c ≠ .paperHold ∧ c ≠ .sensorFallback := by
    revert c; decide
  simp [notMonitors]

/-! ## The route's Translate (R98) -/

/-- Upper takes a small letter to its capital. -/
theorem apply_upper_of_letter {c : Byte} (low : 0x61 ≤ c.toNat) (high : c.toNat ≤ 0x7A) :
    (Translate.upper.apply c).toNat = c.toNat - 0x20 := by
  have letter : 0x61 ≤ c ∧ c ≤ 0x7A := ⟨BitVec.le_def.mpr low, BitVec.le_def.mpr high⟩
  simp only [Translate.apply, letter.1, letter.2, decide_true, Bool.and_self, if_true]
  bv_omega

/-- Upper leaves every other code. -/
theorem apply_upper_of_not_letter {c : Byte} (other : c.toNat < 0x61 ∨ 0x7A < c.toNat) : Translate.upper.apply c = c := by
  have notLetter : ¬ (decide (0x61 ≤ c) && decide (c ≤ 0x7A)) = true := by
    simp only [Bool.and_eq_true, decide_eq_true_eq, BitVec.le_def, BitVec.ofNat_eq_ofNat, BitVec.toNat_ofNat]
    omega
  exact if_neg notLetter

/-- Seven-bit clears bit 7. -/
theorem apply_sevenBit_toNat (c : Byte) : (Translate.sevenBit.apply c).toNat = c.toNat % 128 :=
  (BitVec.toNat_and c 0x7F).trans (Nat.and_two_pow_sub_one_eq_mod c.toNat 7)

theorem deliveredCode_of_substituted {c : TextCell} (substituted : c.substituted = true) (s : State) :
    s.deliveredCode c = c.code := if_pos substituted

theorem deliveredCode_of_not_substituted {c : TextCell} (own : c.substituted = false) (s : State) :
    s.deliveredCode c = (s.store.route c.route).translate.apply c.code := by
  simp [State.deliveredCode, own]

/-! ## The parts of a delivery (R99) -/

theorem toPrint_eq (s : State) (yes : Bool) (p : PortId) (style : Style) (codes : List Byte) :
    s.toPrint yes p style codes = s.setArb (if yes then
      s.arb.setPort p ((s.arb.port p).putCells s.now (codes.map fun c => .char c style)) else s.arb) := by
  cases yes <;> rfl

theorem toTransmit_eq (s : State) (yes : Bool) (codes : List Byte) :
    s.toTransmit yes codes = s.setTx { s.tx with ttq := if yes then s.tx.ttq ++ codes else s.tx.ttq } := by
  cases yes <;> rfl

theorem toController_eq (s : State) (yes : Bool) (r : Fin 16) (codes : List Byte) (substituted : Bool) :
    s.toController yes r codes substituted
      = s.setCrq (if yes then s.crq ++ codes.map fun c => .character r c substituted else s.crq) := by
  cases yes <;> rfl

/-- A comparison of the flow state changes the flow state at most (R58). -/
theorem flowCompare_eq (s : State) : s.flowCompare = s.setTx { s.tx with flow := s.flowCompare.tx.flow } := by
  unfold State.flowCompare
  split <;> rfl

/-- Where every sink of the route has room nothing is dropped: each sink the route names receives the codes. -/
theorem deliver_of_room {s : State} {p : PortId} {r : Fin 16} {e : Route} {codes : List Byte} (entry : s.store.route r = e)
    (room : sinkRoom s p e codes.length = (true, true, true)) (substituted : Bool) :
    s.deliver p r codes substituted
      = ((s.toPrint e.print p e.style codes).toTransmit e.transmit codes).toController e.controller r codes substituted := by
  simp [State.deliver, State.markDrop, entry, room]

/-! ## The Router's take (R96 to R99) -/

section
variable {s : State} {c : TextCell} {rest : List TextCell} {e : Route}

/-- With a free cell in P0, in the TTQ and in the CRQ no sink of any route is blocked. -/
theorem sinkRoom_of_room (print : s.arb.p0.cells.length < 160) (transmit : s.tx.ttq.length < 128)
    (controller : s.crq.length < 64) : sinkRoom s .p0 e 1 = (true, true, true) := by
  have p0 : 1 ≤ s.arb.room .p0 := by simp only [Arbiter.room, Arbiter.port, portCapacity]; omega
  have ttq : 1 ≤ s.ttqRoom := by simp only [State.ttqRoom, Config.ttqCap]; omega
  have crq : 1 ≤ s.crqRoom := by simp only [State.crqRoom, Config.crqCap]; omega
  simp [sinkRoom, p0, ttq, crq]

theorem routeTakes_of_room (head : s.rtq = c :: rest) (entry : s.store.route c.route = e)
    (room : sinkRoom s .p0 e 1 = (true, true, true)) : s.routeTakes = true := by
  simp [State.routeTakes, State.routeRoom, head, entry, room]

/-- With room at every sink a take removes the head cell, gives its one code to each sink the route names, and compares the flow state; no other block is changed. -/
theorem routeHead_of_room (head : s.rtq = c :: rest) (entry : s.store.route c.route = e)
    (room : sinkRoom s .p0 e 1 = (true, true, true)) :
    ∃ flow : FlowState, s.routeHead = (((s.setRtq rest).setArb (if e.print then
        s.arb.setPort .p0 (s.arb.p0.putCells s.now [.char (s.deliveredCode c) e.style]) else s.arb)).setTx
        { s.tx with ttq := if e.transmit then s.tx.ttq ++ [s.deliveredCode c] else s.tx.ttq, flow := flow }).setCrq
        (if e.controller then s.crq ++ [.character c.route (s.deliveredCode c) c.substituted] else s.crq) := by
  have delivered := deliver_of_room (s := s.setRtq rest) (codes := [s.deliveredCode c]) entry room c.substituted
  rw [toPrint_eq, toTransmit_eq, toController_eq] at delivered
  have taken : s.routeHead = ((s.setRtq rest).deliver .p0 c.route [s.deliveredCode c] c.substituted).flowCompare := by
    simp only [State.routeHead, head]
  rw [taken, flowCompare_eq, delivered]
  exact ⟨_, rfl⟩

end

/-- Settles O41: the translation is read off the route's Translate; with room at every sink the take is one delivery, in which only the Controller's entry has a place for the substituted flag. -/
theorem routerTranslates : Obligations.RouterTranslates := by
  refine ⟨fun s c substituted => deliveredCode_of_substituted substituted s, fun s c own => ?translation,
    fun s c rest head => ?take⟩
  case translation =>
    rw [deliveredCode_of_not_substituted own]
    refine ⟨fun none => by rw [none]; rfl, fun upper => ?_, fun sevenBit => ?_⟩
    · rw [upper]
      exact ⟨apply_upper_of_letter, apply_upper_of_not_letter⟩
    · rw [sevenBit]
      exact apply_sevenBit_toNat c.code
  case take =>
    intro e print transmit controller
    have room := sinkRoom_of_room (e := e) print transmit controller
    obtain ⟨flow, taken⟩ := routeHead_of_room head rfl room
    rw [taken]
    refine ⟨routeTakes_of_room head rfl room, rfl, ?p0, rfl, rfl, rfl, rfl, rfl, rfl⟩
    case p0 =>
      show (if e.print then _ else s.arb).p0.cells = _
      split <;> rfl

end Sys2Proof.Machine
end

section
/-!
SUPPORT. The codes of a segment's fields past their ranges (section 12.4); what a port and a job state read after a change of the Arbiter; what a notice with Job Error leaves (R104, R114); the cells of an admission and its effect on the ports, the CRQ and the causes (R113, R114); and what a segment refused for room is answered, as a PRINT command and as a PRINT record (R35, R115).
-/

namespace Sys2Proof.Machine

/-! ## Codes past their ranges (section 12.4) -/

theorem segment?_of_out_of_range {b : Byte} (past : 4 ≤ b.toNat) : segment? b = none := if_neg (Nat.not_lt.mpr past)

theorem style?_of_out_of_range {b : Byte} (past : 4 ≤ b.toNat) : style? b = none := if_neg (Nat.not_lt.mpr past)

/-! ## Ports and job states of the Arbiter (R110, R112) -/

section
variable (a : Arbiter)

@[simp] theorem arbiter_port_setPort_same (p : PortId) (x : Port) : (a.setPort p x).port p = x := by cases p <;> rfl

theorem arbiter_port_setPort_other {p q : PortId} (other : q ≠ p) (x : Port) : (a.setPort p x).port q = a.port q := by
  cases p <;> cases q <;> simp [Arbiter.port, Arbiter.setPort] at other ⊢

@[simp] theorem arbiter_port_setJob (p : JobPort) (j : JobState) (q : PortId) : (a.setJob p j).port q = a.port q := by
  cases p <;> cases q <;> rfl

@[simp] theorem arbiter_job_setJob_same (p : JobPort) (j : JobState) : (a.setJob p j).job p = j := by cases p <;> rfl

end

/-! ## The notice and the cause of an admission (R104, R114) -/

@[simp] theorem raise_arb (s : State) (c : Cause) : (s.raise c).arb = s.arb := rfl
@[simp] theorem raise_crq (s : State) (c : Cause) : (s.raise c).crq = s.crq := rfl

@[simp] theorem post_arb (s : State) (n : Notice) : (s.post n).arb = s.arb := by
  unfold State.post; split <;> rfl

@[simp] theorem admissionNotice_arb (s : State) (p : JobPort) (a : Admission) : (s.admissionNotice p a).arb = s.arb := by
  cases a <;> simp [State.admissionNotice]

/-- A raised cause is named. -/
theorem namesCause_raise_same (s : State) (c : Cause) : namesCause (s.raise c).port.causes c = true := by
  simp [namesCause_raise]

/-- A cause named before another is raised stays named. -/
theorem namesCause_raise_of_named {s : State} {d : Cause} (named : namesCause s.port.causes d = true) (c : Cause) :
    namesCause (s.raise c).port.causes d = true := by
  simp [namesCause_raise, named]

/-- A notice with Job Error: the cause is raised whether or not the notice finds room; without room Notice Lost takes the notice's place. -/
theorem post_raise_jobError (s : State) (n : Notice) : let t := (s.post n).raise .jobError
    namesCause t.port.causes .jobError = true
    ∧ (s.crq.length < 64 → t.crq = s.crq ++ [.notice n])
    ∧ (64 ≤ s.crq.length → t.crq = s.crq ∧ namesCause t.port.causes .noticeLost = true) := by
  refine ⟨namesCause_raise_same _ _, fun room => ?room, fun full => ?full⟩
  case room => rw [raise_crq, post_of_room room, setCrq_crq]
  case full =>
    rw [post_of_full full]
    exact ⟨rfl, namesCause_raise_of_named (namesCause_raise_same s _) _⟩

/-! ## Admission (R113) -/

/-- An admission inserts the characters and three marks at most. -/
theorem admissionCells_length_le (j : JobState) (seg : Segment) (style : Style) (codes : List Byte) :
    (admissionCells j seg style codes).length ≤ codes.length + 3 := by
  unfold admissionCells
  split
  case h_1 => exact Nat.zero_le _
  case h_2 => exact Nat.zero_le _
  case h_3 => split <;> simp
  case h_4 => split <;> simp

section
variable (s : State) (p : JobPort) (seg : Segment) (style : Style) (codes : List Byte)

/-- P2 and P3 have 96 cells each (R110). -/
theorem portCapacity_toPort : portCapacity p.toPort = 96 := by cases p <;> rfl

theorem segmentFits_iff : s.segmentFits p seg style codes = true ↔
    (admissionCells (s.arb.job p) seg style codes).length ≤ 96 - (s.arb.port p.toPort).cells.length := by
  simp [State.segmentFits, Arbiter.room, portCapacity_toPort]

/-- The state of an admission before its notice and cause: the cells at the tail of the port, and the job state after. -/
def State.admitCells : State :=
  s.setArb ((s.arb.setPort p.toPort ((s.arb.port p.toPort).putCells s.now (admissionCells (s.arb.job p) seg style codes))).setJob p
    (admission (s.arb.job p) seg).2)

theorem admitSegment_eq : s.admitSegment p seg style codes
    = (s.admitCells p seg style codes).admissionNotice p (admission (s.arb.job p) seg).1 := rfl

@[simp] theorem admitCells_crq : (s.admitCells p seg style codes).crq = s.crq := rfl
@[simp] theorem admitCells_port : (s.admitCells p seg style codes).port = s.port := rfl

theorem admitSegment_cells : ((s.admitSegment p seg style codes).arb.port p.toPort).cells = (s.arb.port p.toPort).cells
    ++ (admissionCells (s.arb.job p) seg style codes).map (fun b => { body := b, entered := s.now }) := by
  simp [admitSegment_eq, State.admitCells, Port.putCells]

theorem admitSegment_job : (s.admitSegment p seg style codes).arb.job p = (admission (s.arb.job p) seg).2 := by
  simp [admitSegment_eq, State.admitCells]

theorem admitSegment_other_port {q : PortId} (other : q ≠ p.toPort) :
    (s.admitSegment p seg style codes).arb.port q = s.arb.port q := by
  simp [admitSegment_eq, State.admitCells, arbiter_port_setPort_other _ other]

variable {s p seg}

theorem admitSegment_of_missingFirst (out : (admission (s.arb.job p) seg).1 = .missingFirst) :
    s.admitSegment p seg style codes
      = ((s.admitCells p seg style codes).post (.jobEvent p .missingFirst)).raise .jobError := by
  rw [admitSegment_eq, out]; rfl

theorem admitSegment_of_missingLast (out : (admission (s.arb.job p) seg).1 = .missingLast) :
    s.admitSegment p seg style codes
      = ((s.admitCells p seg style codes).post (.jobEvent p .missingLast)).raise .jobError := by
  rw [admitSegment_eq, out]; rfl

/-- Only a missing First or Last gives a notice or a cause. -/
theorem admitSegment_of_no_notice
    (out : (admission (s.arb.job p) seg).1 = .admitted ∨ (admission (s.arb.job p) seg).1 = .quiet) :
    s.admitSegment p seg style codes = s.admitCells p seg style codes := by
  obtain admitted | quiet := out
  · rw [admitSegment_eq, admitted]; rfl
  · rw [admitSegment_eq, quiet]; rfl

end

/-! ## The PRINT command (R115) -/

/-- The Arbiter does not change at a wake, so neither does the room for a segment. -/
@[simp] theorem wake_segmentFits (s : State) (c : WakeCause) (p : JobPort) (seg : Segment) (style : Style)
    (codes : List Byte) : (s.wake c).segmentFits p seg style codes = s.segmentFits p seg style codes := by
  simp [State.segmentFits]

theorem exec_print (x : List Byte) (s : State) : exec (.print x) s = execPrint x s := rfl

/-- A PRINT command whose length is right completes with what its own checks and the admission make of the woken part. -/
theorem completes_print {x : List Byte} {s t : State} {r : Response} (ok : lengthOk 2 x = true)
    (body : printBody x (s.wake .command) = (t, r)) : Completes (.print x) s (t.respond r) := by
  have settled := take_settled s (checked 2 x (printBody x))
  rw [checked_ok ok, body] at settled
  exact ⟨_, exec_print x s, settled⟩

theorem printSegment?_of_fields {x : List Byte} {seg : Segment} {style : Style} (segment : segment? (byteAt x 0) = some seg)
    (styled : style? (byteAt x 1) = some style) (short : (x.drop 2).length ≤ 64) :
    printSegment? x = some (seg, style, x.drop 2) := by
  simp only [printSegment?, segment, styled, Option.bind_eq_bind, Option.bind_some, if_pos short]
  rfl

/-- A segment of the PRINT command that does not fit is answered FULL, and that is all. -/
theorem printBody_of_no_room {x : List Byte} {s : State} {seg : Segment} {style : Style} {codes : List Byte}
    (fields : printSegment? x = some (seg, style, codes)) (noRoom : s.segmentFits .p2 seg style codes = false) :
    printBody x s = (s, { result := .full }) := by
  simp [printBody, field_some fields, noRoom, State.refuse]

/-! ## A refused record (R35) -/

/-- An accepted record that steps 3 to 6 refuse is answered with the reason, and that is all. -/
theorem decide_of_examine_refused {s : State} {r : Assembly} {reason : Reason}
    (own : r.addressed s.line.settings.station = true) (accepted : (s.engine.governs r).1 = .accept)
    (refused : s.examine r = .inl reason) : s.decide r = s.answer r (.nak reason r.kind) := by
  simp [State.decide, own, accepted, refused]

/-- A PRINT record is examined by the room for its segment. -/
theorem examine_print {s : State} {r : Assembly} (route : r.routeUpper = false) (kind : r.kind = 2) : s.examine r =
    if s.segmentFits .p3 r.segment (s.store.route r.route).style r.payload then .inr .print else .inl .busy := by
  simp [State.examine, route, kind]

/-- Settles O44: the table is read row by row; an admission is its cells and job state (`State.admitCells`) and then its notice; a refused segment is the woken part with FULL, or the record's NAK. -/
theorem admissionTable : Obligations.AdmissionTable := by
  refine ⟨⟨rfl, fun _ => segment?_of_out_of_range⟩, ⟨rfl, fun _ => style?_of_out_of_range⟩,
    fun style codes => ?table, fun s p seg style codes => ?effect,
    fun x y s seg style segment styled rest two short noRoom => ?command,
    fun s r own accepted route kind noRoom => ?record⟩
  case table =>
    intro chars row n
    have bound : n ≤ 64 → ∀ j seg, (admissionCells j seg style codes).length ≤ 67 := fun short j seg =>
      Nat.le_trans (admissionCells_length_le j seg style codes) (Nat.add_le_add_right short 3)
    -- each of the twelve rows: the cells and the outcome as defined, the room by counting
    refine ⟨?_, ?_, ?_, ?_, ?_, ?_, ?_, ?_, ?_, ?_, ?_, ?_, bound⟩ <;> exact ⟨rfl, by simp [chars, n], rfl⟩
  case effect =>
    refine ⟨segmentFits_iff s p seg style codes, admitSegment_cells s p seg style codes,
      admitSegment_job s p seg style codes, fun q => admitSegment_other_port s p seg style codes,
      fun first => ?_, fun last => ?_, fun unnoticed => ?_⟩
    · rw [admitSegment_of_missingFirst style codes first]
      exact post_raise_jobError (s.admitCells p seg style codes) _
    · rw [admitSegment_of_missingLast style codes last]
      exact post_raise_jobError (s.admitCells p seg style codes) _
    · rw [admitSegment_of_no_notice style codes unnoticed]
      exact ⟨rfl, rfl⟩
  case command =>
    subst rest
    have ok : lengthOk 2 x = true := by
      rw [List.length_drop] at short
      simp only [lengthOk, Bool.and_eq_true, decide_eq_true_eq]
      omega
    exact completes_print ok
      (printBody_of_no_room (printSegment?_of_fields segment styled short) ((wake_segmentFits ..).trans noRoom))
  case record =>
    rw [decide_of_examine_refused own accepted (reason := .busy) (by simp [examine_print route kind, noRoom]), kind]

end Sys2Proof.Machine
end

section
/-!
SUPPORT. The packing of the firing groups into phases, case by case of R150: the phases' order, their size, and where a new phase opens; and which groups of a dot row fire (R148).
-/

namespace Sys2Proof.Machine

/-! ## The phases of a packing (R150) -/

@[simp] theorem blackOf_nil : blackOf [] = 0 := rfl
@[simp] theorem blackOf_singleton (f : GroupFire) : blackOf [f] = f.black := by simp [blackOf]
@[simp] theorem blackOf_append (a b : List GroupFire) : blackOf (a ++ b) = blackOf a + blackOf b := by simp [blackOf]

/-- The phases hold the groups of the current phase and those ahead, in their order. -/
theorem packGroups_flatten (limit : Nat) (current fs : List GroupFire) :
    (packGroups limit current fs).flatten = current ++ fs := by
  fun_induction packGroups limit current fs with
  | case1 current empty => simpa using empty
  | case2 current => simp
  | case3 current f rest _ ih => split <;> simp_all
  | case4 current f rest _ _ ih => simp [ih]
  | case5 current f rest _ _ ih => simp [ih]

theorem ne_nil_of_mem_packGroups (limit : Nat) (current fs : List GroupFire) :
    ∀ p ∈ packGroups limit current fs, p ≠ [] := by
  fun_induction packGroups limit current fs with
  | case1 current => simp
  | case2 current started => simpa using started
  | case3 current f rest _ ih => split <;> simp_all
  | case4 current f rest _ _ ih => exact ih
  | case5 current f rest notOver full ih =>
    have started : current ≠ [] := by
      rintro rfl
      rw [blackOf_nil] at full
      omega
    simpa [started] using ih

/-- Lists that are not empty are no more than their elements. -/
theorem length_le_length_flatten {ps : List (List GroupFire)} (filled : ∀ p ∈ ps, p ≠ []) :
    ps.length ≤ ps.flatten.length := by
  induction ps with
  | nil => exact Nat.le_refl 0
  | cons p ps ih =>
    obtain ⟨first, behind⟩ := List.forall_mem_cons.mp filled
    have nonempty := List.length_pos_iff.mpr first
    have more := ih behind
    rw [List.length_cons, List.flatten_cons, List.length_append]
    omega

/-- No phase is empty, so there are no more phases than groups. -/
theorem length_packGroups_le (limit : Nat) (fs : List GroupFire) : (packGroups limit [] fs).length ≤ fs.length := by
  have bound := length_le_length_flatten (ne_nil_of_mem_packGroups limit [] fs)
  rwa [packGroups_flatten, List.nil_append] at bound

/-- Where the current phase is within L, each phase is within L or one group alone. -/
theorem blackOf_le_or_alone_of_mem_packGroups {limit : Nat} {current : List GroupFire} (within : blackOf current ≤ limit)
    (fs : List GroupFire) : ∀ p ∈ packGroups limit current fs, blackOf p ≤ limit ∨ p.length = 1 := by
  fun_induction packGroups limit current fs with
  | case1 current => simp
  | case2 current => simpa using .inl within
  | case3 current f rest _ ih =>
    have behind := ih (Nat.zero_le limit)
    split <;> simpa [within] using behind
  | case4 current f rest _ fits ih => exact ih (by simpa using fits)
  | case5 current f rest notOver _ ih =>
    have behind := ih (by simpa using notOver)
    simpa [within] using behind

/-! ## Where a new phase opens (R150) -/

/-- Wherever two phases follow one another, the first group of the second does not fit the first. -/
def OpensWhereNeeded (limit : Nat) (ps : List (List GroupFire)) : Prop :=
  ∀ before p f q behind, ps = before ++ p :: (f :: q) :: behind → limit < blackOf p + f.black

theorem opensWhereNeeded_nil (limit : Nat) : OpensWhereNeeded limit [] := by
  intro before p f q behind packed
  simp at packed

/-- A phase may stand before a packing whose first group does not fit it. -/
theorem OpensWhereNeeded.cons {limit : Nat} {p : List GroupFire} {ps : List (List GroupFire)}
    (needed : OpensWhereNeeded limit ps) (noRoom : ∀ f q behind, ps = (f :: q) :: behind → limit < blackOf p + f.black) :
    OpensWhereNeeded limit (p :: ps) := by
  intro before p' f q behind packed
  cases before with
  | nil =>
    obtain ⟨rfl, front⟩ := List.cons.inj packed
    exact noRoom f q behind front
  | cons x before => exact needed before p' f q behind (List.cons.inj packed).2

/-- Behind a group over L any phase is needed. -/
theorem OpensWhereNeeded.cons_over {limit : Nat} {f : GroupFire} {ps : List (List GroupFire)} (large : limit < f.black)
    (needed : OpensWhereNeeded limit ps) : OpensWhereNeeded limit ([f] :: ps) := by
  refine needed.cons fun g q behind _ => ?_
  rw [blackOf_singleton]
  exact Nat.lt_add_right _ large

/-- A phase may stand before one that starts with a group it has no room for. -/
theorem OpensWhereNeeded.cons_cons {limit : Nat} {p q : List GroupFire} {f : GroupFire} {behind : List (List GroupFire)}
    (noRoom : limit < blackOf p + f.black) (needed : OpensWhereNeeded limit ((f :: q) :: behind)) :
    OpensWhereNeeded limit (p :: (f :: q) :: behind) := by
  refine needed.cons fun g q' behind' starts => ?_
  obtain ⟨sameGroup, -⟩ := List.cons.inj (List.cons.inj starts).1
  rwa [← sameGroup]

/-- A phase under way stands at the front of the packing, with the groups that joined it. -/
theorem packGroups_eq_cons {limit : Nat} {current : List GroupFire} (started : current ≠ []) (fs : List GroupFire) :
    ∃ joined behind, packGroups limit current fs = (current ++ joined) :: behind := by
  fun_induction packGroups limit current fs with
  | case1 current empty => exact absurd (List.isEmpty_iff.mp empty) started
  | case2 current => exact ⟨[], [], by simp⟩
  | case3 current f rest large ih => exact ⟨[], [f] :: packGroups limit [] rest, by simp [started]⟩
  | case4 current f rest _ _ ih =>
    obtain ⟨joined, behind, packed⟩ := ih (by simp)
    exact ⟨f :: joined, behind, by simp [packed]⟩
  | case5 current f rest => exact ⟨[], packGroups limit [f] rest, by simp⟩

theorem packGroups_opensWhereNeeded (limit : Nat) (current fs : List GroupFire) :
    OpensWhereNeeded limit (packGroups limit current fs) := by
  fun_induction packGroups limit current fs with
  | case1 current => exact opensWhereNeeded_nil limit
  | case2 current => exact (opensWhereNeeded_nil limit).cons (by intro f q behind packed; cases packed)
  | case3 current f rest large ih =>
    have behind := ih.cons_over large
    split
    · exact behind
    · exact behind.cons_cons (Nat.lt_add_left _ large)
  | case4 current f rest _ _ ih => exact ih
  | case5 current f rest _ full ih =>
    obtain ⟨joined, behind, packed⟩ := packGroups_eq_cons (limit := limit) (List.cons_ne_nil f []) rest
    rw [packed] at ih ⊢
    exact ih.cons_cons (Nat.lt_of_not_le full)

/-! ## The groups that fire (R148) -/

section
variable (st : Store) (wv : Nat) (row history : DotRow)

theorem length_firingGroups_le : (firingGroups st wv row history).length ≤ 6 :=
  Nat.le_trans (List.length_filter_le _ _) (by simp)

theorem mem_firingGroups {f : GroupFire} : f ∈ firingGroups st wv row history ↔
    (∃ g, groupFire st wv row history g = f) ∧ 0 < f.black := by
  simp [firingGroups]

theorem firingGroups_ascending : ((firingGroups st wv row history).map GroupFire.group).Pairwise (· < ·) :=
  List.pairwise_map.mpr (List.Pairwise.filter _ (List.pairwise_map.mpr (List.pairwise_lt_finRange 6)))

end

/-- Settles O53: each clause is one property of the packing, kept in each of its cases; the firing groups are those of the six that have a black dot. -/
theorem phasesKeepDotLimit : Obligations.PhasesKeepDotLimit := by
  intro limit fs
  exact ⟨packGroups_flatten limit [] fs, ne_nil_of_mem_packGroups limit [] fs,
    blackOf_le_or_alone_of_mem_packGroups (Nat.zero_le limit) fs, packGroups_opensWhereNeeded limit [] fs,
    length_packGroups_le limit fs, fun st wv row history => ⟨length_firingGroups_le st wv row history,
      fun f fires => ((mem_firingGroups st wv row history).mp fires).2, firingGroups_ascending st wv row history⟩⟩

end Sys2Proof.Machine
end

section
/-!
SUPPORT. What the Monitor's comparisons, samples and readings leave of the Head Drive and of the readings themselves (R149, R153, R159 to R162), and what CONFIG PRINT hands to the Head Drive (R128, R155).
-/

namespace Sys2Proof.Machine

section
variable (s : State)

/-! ## Causes and notices are no matter of the Head Drive -/

@[simp] theorem raise_head (c : Cause) : (s.raise c).head = s.head := rfl

@[simp] theorem raise_mon (c : Cause) : (s.raise c).mon = s.mon := rfl

@[simp] theorem raiseIf_head (b : Bool) (c : Cause) : (s.raiseIf b c).head = s.head := by
  unfold State.raiseIf; split <;> rfl

@[simp] theorem post_head (n : Notice) : (s.post n).head = s.head := by
  unfold State.post; split <;> rfl

/-! ## A comparison of the holds (R153, R154) -/

/-- A comparison of the holds moves the Head Drive's state and its settle timer at most. -/
theorem syncHolds_head {s : State} {h : Head} (same : s.head = h) :
    ∃ x settle, s.syncHolds.head = { h with state := x, settle := settle } := by
  subst same
  unfold State.syncHolds
  split <;> split <;> exact ⟨_, _, rfl⟩

/-- Of the Monitor a comparison of the holds changes what is owed at most. -/
theorem syncHolds_mon : ∃ supplyOwed thermOwed,
    s.syncHolds.mon = { s.mon with supplyOwed := supplyOwed, thermOwed := thermOwed } := by
  unfold State.syncHolds
  split <;> split <;> exact ⟨_, _, rfl⟩

@[simp] theorem syncHolds_dotLimit : s.syncHolds.head.dotLimit = s.head.dotLimit := by
  obtain ⟨_, _, moved⟩ := syncHolds_head (s := s) rfl; rw [moved]

@[simp] theorem syncHolds_samples : s.syncHolds.mon.samples = s.mon.samples := by
  obtain ⟨_, _, owed⟩ := syncHolds_mon s; rw [owed]

@[simp] theorem syncHolds_fallback : s.syncHolds.mon.fallback = s.mon.fallback := by
  obtain ⟨_, _, owed⟩ := syncHolds_mon s; rw [owed]

/-- A comparison of T with the OT Limit moves no more of the Head Drive (R162). -/
theorem compareThermal_head : ∃ x settle, s.compareThermal.head = { s.head with state := x, settle := settle } :=
  syncHolds_head (raiseIf_head _ _ _)

@[simp] theorem compareThermal_limit : s.compareThermal.head.limit = s.head.limit := by
  obtain ⟨_, _, moved⟩ := compareThermal_head s; rw [moved]

@[simp] theorem compareThermal_dotLimit : s.compareThermal.head.dotLimit = s.head.dotLimit := by
  obtain ⟨_, _, moved⟩ := compareThermal_head s; rw [moved]

@[simp] theorem compareThermal_samples : s.compareThermal.mon.samples = s.mon.samples := by
  simp [State.compareThermal, raiseIf_mon]

@[simp] theorem compareThermal_fallback : s.compareThermal.mon.fallback = s.mon.fallback := by
  simp [State.compareThermal, raiseIf_mon]

/-! ## L is computed anew (R149) -/

/-- L from the Dot Limit, V and Sensor Fallback as they stand. -/
theorem recomputeLimit_limit : s.recomputeLimit.head.limit = dotLimitOf s.head.dotLimit s.mon.supply s.mon.fallback := rfl

@[simp] theorem recomputeLimit_mon : s.recomputeLimit.mon = s.mon := rfl

/-- A sample ends with L computed from the new V. -/
theorem sampleSupply_limit :
    s.sampleSupply.head.limit = dotLimitOf s.head.dotLimit s.sampleSupply.mon.supply s.mon.fallback := by
  simp [State.sampleSupply, recomputeLimit_limit, raiseIf_mon]

/-- A reading puts Sensor Fallback in force exactly where it is invalid (R161). -/
theorem readThermistor_fallback : s.readThermistor.mon.fallback = !validReading s.pins.therm := by
  unfold State.readThermistor
  dsimp only
  split
  case isTrue valid => split <;> simp [valid]
  case isFalse invalid =>
    split
    case isTrue fallback => simpa [invalid] using fallback
    case isFalse => simp [invalid]

/-- A reading at which Sensor Fallback begins or ends has L computed anew. -/
theorem readThermistor_limit_of_change (change : s.mon.fallback = validReading s.pins.therm) :
    s.readThermistor.head.limit = dotLimitOf s.head.dotLimit s.mon.supply s.readThermistor.mon.fallback := by
  rw [readThermistor_fallback]
  unfold State.readThermistor
  cases valid : validReading s.pins.therm with
  | true => simp [change, valid, recomputeLimit_limit, Monitor.supply]
  | false => simp [change, valid, recomputeLimit_limit, Monitor.supply]

/-! ## CONFIG PRINT (R128, R155) -/

@[simp] theorem watchStall_head : s.watchStall.head = s.head := by
  unfold State.watchStall; split <;> split <;> rfl

@[simp] theorem watchStall_mon : s.watchStall.mon = s.mon := by
  unfold State.watchStall; split <;> split <;> rfl

@[simp] theorem stallJob_head (p : JobPort) : (s.stallJob p).head = s.head := by
  simp [State.stallJob, State.removeCells, State.releaseHold]

@[simp] theorem stallJob_mon (p : JobPort) : (s.stallJob p).mon = s.mon := by
  simp [State.stallJob, State.removeCells, State.releaseHold, post_mon]

@[simp] theorem compareStall_head : s.compareStall.head = s.head := by
  unfold State.compareStall
  split
  · split <;> simp
  · rfl

@[simp] theorem compareStall_mon : s.compareStall.mon = s.mon := by
  unfold State.compareStall
  split
  · split <;> simp
  · rfl

@[simp] theorem writePrint_dotLimit (x : PrintSettings) : (s.writePrint x).head.dotLimit = x.dotLimit := rfl
@[simp] theorem writePrint_samples (x : PrintSettings) : (s.writePrint x).mon.samples = s.mon.samples := rfl
@[simp] theorem writePrint_fallback (x : PrintSettings) : (s.writePrint x).mon.fallback = s.mon.fallback := rfl

/-- The settings that CONFIG PRINT writes enter L at once. -/
theorem configPrint_limit (x : PrintSettings) :
    (s.configPrint x).head.limit = dotLimitOf x.dotLimit s.mon.supply s.mon.fallback := by
  simp [State.configPrint, recomputeLimit_limit, Monitor.supply]

end

/-! ## The Dot Limit's derivation (R149) -/

theorem dotLimitOf_of_full_supply {v : Nat} (full : 620 ≤ v) (setting : Nat) : dotLimitOf setting v false = setting := by
  have notLow : ¬ v < 620 := Nat.not_lt.mpr full
  simp [dotLimitOf, notLow]

theorem dotLimitOf_of_low_supply {v : Nat} (low : v < 620) (setting : Nat) :
    dotLimitOf setting v false = max 16 (setting / 2) := by
  simp [dotLimitOf, low]

/-- Settles O52: L is halved and capped by cases on V and Sensor Fallback; each of the three events ends with L computed anew; a row's phases are packed with the L of its start. -/
theorem effectiveDotLimit : Obligations.EffectiveDotLimit := by
  refine ⟨fun setting v => ⟨fun full => dotLimitOf_of_full_supply full setting,
      fun low => dotLimitOf_of_low_supply low setting, rfl⟩, by decide,
    sampleSupply_limit, fun s change => readThermistor_limit_of_change s ?change, configPrint_limit,
    fun s row => ⟨_, rfl, rfl⟩⟩
  case change =>
    rw [readThermistor_fallback, ne_comm, ne_eq, Bool.eq_not] at change
    simpa using change

end Sys2Proof.Machine
end

section
/-!
SUPPORT. The five stages of the strobe widths, each by its cases (R143 to R146); the black and the cold dots of a group and which dots are driven (R147, R148); and what changes the history and its idle timer (R147).
-/

namespace Sys2Proof.Machine

/-! ## The temperature stage (R143) -/

section
variable (st : Store) {t : Int}

theorem temperatureWidth_of_below (below : t < -10) : temperatureWidth st t = st.curve 0 := if_pos below

theorem temperatureWidth_of_above (above : 60 ≤ t) : temperatureWidth st t = st.curve 7 := by
  have notBelow : ¬ t < -10 := by omega
  simp [temperatureWidth, notBelow, above]

/-- Between two curve points the width is interpolated, rounded down. -/
theorem temperatureWidth_of_between {i d : Nat} (segment : i < 7) (offset : d < 10) (ht : t = 10 * (i : Int) - 10 + d) :
    temperatureWidth st t = (st.curve i * (10 - d) + st.curve (i + 1) * d) / 10 := by
  have notBelow : ¬ t < -10 := by omega
  have notAbove : ¬ 60 ≤ t := by omega
  have up : (t + 10).toNat = 10 * i + d := by omega
  have point : (10 * i + d) / 10 = i := by omega
  have past : (10 * i + d) % 10 = d := by omega
  simp [temperatureWidth, notBelow, notAbove, up, point, past]

theorem temperatureWidth_of_point {i : Nat} (point : i < 8) (ht : t = 10 * (i : Int) - 10) :
    temperatureWidth st t = st.curve i := by
  by_cases last : i = 7
  · subst last
    exact temperatureWidth_of_above st (by omega)
  · have segment : i < 7 := by omega
    rw [temperatureWidth_of_between (d := 0) st segment (by omega) (by simpa using ht)]
    simp

end

/-! ## The darkness and the voltage stage (R144, R145) -/

theorem fallbackWidth_table : ∀ d : Fin 8,
    fallbackWidth d.val = [600, 680, 760, 840, 920, 1000, 1080, 1160].getD d.val 0 := by decide

section
variable (wd : Nat) {v : Nat}

theorem voltageWidth_of_below (below : v ≤ 560) : voltageWidth wd v = wd * 518400 / (560 * 560) := by
  have clamped : clamp 560 860 v = 560 := by unfold clamp; omega
  simp [voltageWidth, clamped]

theorem voltageWidth_of_between (low : 560 ≤ v) (high : v ≤ 860) : voltageWidth wd v = wd * 518400 / (v * v) := by
  have clamped : clamp 560 860 v = v := by unfold clamp; omega
  simp [voltageWidth, clamped]

theorem voltageWidth_of_above (above : 860 ≤ v) : voltageWidth wd v = wd * 518400 / (860 * 860) := by
  have clamped : clamp 560 860 v = 860 := by unfold clamp; omega
  simp [voltageWidth, clamped]

/-- At the reference supply the width is unchanged. -/
theorem voltageWidth_reference : voltageWidth wd 720 = wd := by
  rw [voltageWidth_of_between wd (by omega) (by omega)]
  omega

end

/-! ## The range of the widths (R146) -/

section
variable (st : Store) (wv : Nat) (row history : DotRow) (g : Fin 6)

theorem coldWidth_mem : 150 ≤ coldWidth st wv g ∧ coldWidth st wv g ≤ 2000 := clamp_mem (by omega) _

theorem hotWidth_mem : 150 ≤ hotWidth st wv g ∧ hotWidth st wv g ≤ 2000 := clamp_mem (by omega) _

theorem groupFire_strobe_mem :
    150 ≤ (groupFire st wv row history g).strobe ∧ (groupFire st wv row history g).strobe ≤ 2000 := by
  rw [groupFire_strobe]
  split
  · exact hotWidth_mem st wv g
  · exact coldWidth_mem st wv g

/-! ## Black and cold dots (R147, R148) -/

/-- Counting along a list is `countP`. -/
theorem foldl_count_eq_countP {α : Type} (p : α → Bool) (l : List α) (n : Nat) :
    l.foldl (fun n x => n + if p x then 1 else 0) n = n + l.countP p := by
  induction l generalizing n with
  | nil => rfl
  | cons x l ih => rw [List.foldl_cons, ih, List.countP_cons]; omega

/-- Dot `i` of the group is black in the row. -/
def IsBlackDot (row : DotRow) (g : Fin 6) (i : Fin 64) : Prop := row.getLsbD (64 * g.val + i.val) = true

/-- Dot `i` of the group is black in the row and white in the history (R147). -/
def IsColdDot (row history : DotRow) (g : Fin 6) (i : Fin 64) : Prop :=
  IsBlackDot row g i ∧ history.getLsbD (64 * g.val + i.val) = false

theorem groupDots_getLsbD (i : Fin 64) : (groupDots row g).getLsbD i = row.getLsbD (64 * g.val + i.val) := by
  simp [groupDots]

theorem groupDots_getLsbD_iff (i : Fin 64) : (groupDots row g).getLsbD i = true ↔ IsBlackDot row g i := by
  rw [groupDots_getLsbD, IsBlackDot]

theorem coldDots_getLsbD_iff (i : Fin 64) : (coldDots row history g).getLsbD i = true ↔ IsColdDot row history g i := by
  have inRow : 64 * g.val + i.val < 384 := by omega
  rw [coldDots, groupDots_getLsbD, IsColdDot, IsBlackDot]
  simp [inRow]

/-- A group counts its black dots. -/
theorem blackCount_groupDots : blackCount (groupDots row g)
    = ((List.finRange 64).filter fun i => row.getLsbD (64 * g.val + i.val)).length := by
  have positions : (List.finRange 64).map (fun i => i.val) = List.range 64 := List.ext_getElem (by simp) (by simp)
  calc blackCount (groupDots row g)
      = (List.range 64).countP (groupDots row g).getLsbD := by
        rw [blackCount, foldl_count_eq_countP, Nat.zero_add]
    _ = (List.finRange 64).countP fun i : Fin 64 => (groupDots row g).getLsbD i := by
        rw [← positions, List.countP_map]; rfl
    _ = _ := by simp only [groupDots_getLsbD, List.countP_eq_length_filter]

theorem groupFire_black_pos : 0 < (groupFire st wv row history g).black ↔ ∃ i, IsBlackDot row g i := by
  change 0 < blackCount (groupDots row g) ↔ _
  simp [blackCount_groupDots, List.length_pos_iff_exists_mem, IsBlackDot]

theorem groupFire_mem_firingGroups :
    groupFire st wv row history g ∈ firingGroups st wv row history ↔ ∃ i, IsBlackDot row g i := by
  rw [mem_firingGroups, groupFire_black_pos]
  exact and_iff_right ⟨g, rfl⟩

theorem eq_groupFire_of_mem_firingGroups {f : GroupFire} (fires : f ∈ firingGroups st wv row history) :
    f = groupFire st wv row history f.group := by
  obtain ⟨⟨g, rfl⟩, -⟩ := (mem_firingGroups st wv row history).mp fires
  rfl

theorem coldDots_eq_zero_iff : coldDots row history g = 0 ↔ ∀ i, ¬ IsColdDot row history g i := by
  constructor
  · intro empty i cold
    rw [← coldDots_getLsbD_iff, empty] at cold
    simp at cold
  · intro noCold
    refine BitVec.eq_of_getLsbD_eq fun i hi => ?_
    have notSet := mt (coldDots_getLsbD_iff row history g ⟨i, hi⟩).mp (noCold ⟨i, hi⟩)
    exact (Bool.eq_false_iff.mpr notSet).trans BitVec.getLsbD_zero.symm

theorem groupFire_onTime (i : Fin 64) : (groupFire st wv row history g).onTime i
    = if (coldDots row history g).getLsbD i then coldWidth st wv g
      else if (groupDots row g).getLsbD i then hotWidth st wv g else 0 := rfl

variable {row history g} {i : Fin 64}

/-- A cold dot is on for its group's cold width. -/
theorem groupFire_onTime_of_cold (cold : IsColdDot row history g i) :
    (groupFire st wv row history g).onTime i = coldWidth st wv g := by
  rw [groupFire_onTime, if_pos ((coldDots_getLsbD_iff row history g i).mpr cold)]

/-- A hot dot is on for its group's hot width. -/
theorem groupFire_onTime_of_hot (black : IsBlackDot row g i) (hot : ¬ IsColdDot row history g i) :
    (groupFire st wv row history g).onTime i = hotWidth st wv g := by
  rw [groupFire_onTime, if_neg (mt (coldDots_getLsbD_iff row history g i).mp hot),
    if_pos ((groupDots_getLsbD_iff row g i).mpr black)]

/-- A white dot is never on. -/
theorem groupFire_onTime_of_white (white : ¬ IsBlackDot row g i) : (groupFire st wv row history g).onTime i = 0 := by
  have notCold : ¬ IsColdDot row history g i := fun cold => white cold.1
  rw [groupFire_onTime, if_neg (mt (coldDots_getLsbD_iff row history g i).mp notCold),
    if_neg (mt (groupDots_getLsbD_iff row g i).mp white)]

/-- The strobe of a group is its cold width where one of its dots is cold. -/
theorem groupFire_strobe_of_cold (cold : ∃ i, IsColdDot row history g i) :
    (groupFire st wv row history g).strobe = coldWidth st wv g := by
  obtain ⟨i, isCold⟩ := cold
  have notEmpty : ¬ coldDots row history g = 0 := fun empty => (coldDots_eq_zero_iff row history g).mp empty i isCold
  rw [groupFire_strobe, if_neg notEmpty]

/-- The strobe of a group without a cold dot is its hot width. -/
theorem groupFire_strobe_of_no_cold (noCold : ∀ i, ¬ IsColdDot row history g i) :
    (groupFire st wv row history g).strobe = hotWidth st wv g := by
  rw [groupFire_strobe, if_pos ((coldDots_eq_zero_iff row history g).mpr noCold)]

end

/-! ## The dots driven now (R148, R151) -/

theorem dotOn_of_not_firing {s : State} (h : s.head.state ≠ .firing) (dot : Fin 384) : s.dotOn dot = false := by
  have noPhase : s.head.firingPhase = none := by
    unfold Head.firingPhase
    split
    case h_1 firing _ => exact absurd firing h
    case h_2 => rfl
  simp [State.dotOn, noPhase]

/-- A dot is the dot of its group that it is counted as. -/
theorem dot_eq_iff {dot : Fin 384} {g : Fin 6} {i : Fin 64} :
    dot.val = 64 * g.val + i.val ↔ g.val = dot.val / 64 ∧ i = ⟨dot.val % 64, Nat.mod_lt _ (by omega)⟩ := by
  rw [Fin.ext_iff]
  change _ ↔ g.val = dot.val / 64 ∧ i.val = dot.val % 64
  omega

/-- While a phase fires, a dot is on where a group of the phase holds it and its on time from the phase's start is not over. -/
theorem dotOn_iff_of_firing {s : State} {r : RowRun} {ph : Phase} {rest : List Phase} (firing : s.head.state = .firing)
    (underWay : s.head.row = some r) (first : r.phases = ph :: rest) (dot : Fin 384) :
    s.dotOn dot = true ↔ ∃ f ∈ ph.groups, ∃ i : Fin 64, dot.val = 64 * f.group.val + i.val
      ∧ s.now < r.phaseEnd - 3 * ph.duration + 3 * f.onTime i := by
  have phase : s.head.firingPhase = some (ph, r.phaseEnd - ph.duration * Config.unitsPerUs) := by
    simp [Head.firingPhase, firing, underWay, first]
  have us (n : Nat) : n * Config.unitsPerUs = 3 * n := Nat.mul_comm n 3
  simp only [State.dotOn, phase, List.any_eq_true, Bool.and_eq_true, beq_iff_eq, decide_eq_true_eq, us, dot_eq_iff]
  constructor
  · rintro ⟨f, inPhase, inGroup, inTime⟩
    exact ⟨f, inPhase, _, ⟨inGroup, rfl⟩, inTime⟩
  · rintro ⟨f, inPhase, i, ⟨inGroup, rfl⟩, inTime⟩
    exact ⟨f, inPhase, inGroup, inTime⟩

/-! ## The history (R147) -/

theorem rowHistory_of_no_idle_timer {s : State} (off : s.head.idleSince = none) : s.rowHistory = s.head.history := by
  simp [State.rowHistory, off]

/-- After more than 100 ms of idle time the history is white. -/
theorem rowHistory_of_idle_timer {s : State} {start : Nat} (idle : s.head.idleSince = some start) :
    (start + 300000 < s.now → s.rowHistory = 0) ∧ (s.now ≤ start + 300000 → s.rowHistory = s.head.history) := by
  have read : s.rowHistory = if start + 300000 < s.now then 0 else s.head.history := by
    simp only [State.rowHistory, idle]; rfl
  rw [read]
  exact ⟨fun past => if_pos past, fun young => if_neg (Nat.not_lt.mpr young)⟩

section
variable (s : State)

/-- The history and the idle timer of `t` are those of `s`. -/
def State.SameHistory (t s : State) : Prop := t.head.history = s.head.history ∧ t.head.idleSince = s.head.idleSince

theorem sameHistory_of_head_eq {t : State} (same : t.head = s.head) : t.SameHistory s := by
  simp only [State.SameHistory, same, and_self]

theorem sameHistory_syncHolds {s t : State} (same : t.head = s.head) : t.syncHolds.SameHistory s := by
  obtain ⟨_, _, moved⟩ := syncHolds_head same
  simp only [State.SameHistory, moved, and_self]

theorem sameHistory_sampleSupply : s.sampleSupply.SameHistory s := sameHistory_syncHolds (raiseIf_head _ _ _)

theorem sameHistory_compareThermal : s.compareThermal.SameHistory s := sameHistory_syncHolds (raiseIf_head _ _ _)

theorem sameHistory_readThermistor : s.readThermistor.SameHistory s := by
  unfold State.readThermistor
  dsimp only
  split
  case isTrue valid =>
    split
    · exact sameHistory_compareThermal _
    · exact sameHistory_compareThermal _
  case isFalse invalid =>
    split
    · exact ⟨rfl, rfl⟩
    · exact ⟨rfl, rfl⟩

@[simp] theorem finishLine_head : s.finishLine.head = s.head := by
  unfold State.finishLine
  split
  · rfl
  · dsimp only
    split
    · rw [post_head]; split <;> rfl
    · rfl

@[simp] theorem grant_head (q : PortId) : (s.grant q).head = s.head := by
  unfold State.grant
  split <;> rfl

end

/-- The end of a Dot Row leaves its dots as the history, and the idle timer from zero. -/
theorem rowEnded_of_dots {h : Head} {row : DotRow} (notReset : h.clearAtEnd = false) (inHand : h.inHand = .dots row)
    (now : Nat) : (h.rowEnded now).history = row ∧ (h.rowEnded now).idleSince = some now := by
  simp [Head.rowEnded, notReset, inHand]

/-- The end of a white row leaves a white history. -/
theorem rowEnded_history_of_feed {h : Head} {n : Nat} (inHand : h.inHand = .feed n) (now : Nat) :
    (h.rowEnded now).history = 0 := by
  cases reset : h.clearAtEnd with
  | true => simp [Head.rowEnded, reset]
  | false => simp [Head.rowEnded, reset, inHand]

/-! ## The phases of a started row (R142, R148) -/

/-- Every group that a phase of a dot row fires is a firing group of the row. -/
theorem eq_groupFire_of_mem_rowPhases {st : Store} {t : Int} {fallback : Bool} {v limit : Nat} {row history : DotRow}
    {ph : Phase} (inRow : ph ∈ rowPhases st t fallback v limit row history) {f : GroupFire} (inPhase : f ∈ ph.groups) :
    f = groupFire st (voltageWidth (darknessWidth st t fallback) v) row history f.group := by
  obtain ⟨p, packed, rfl⟩ := List.mem_map.mp inRow
  refine eq_groupFire_of_mem_firingGroups st _ row history ?_
  have fires := List.mem_flatten_of_mem packed inPhase
  rwa [packGroups_flatten, List.nil_append] at fires

/-- Settles O51: the stages by their cases, the drive of a dot from its group's cold dots, the history from what each operation leaves of the Head Drive; a started row fires only firing groups, whose strobe is a cold or a hot width. -/
theorem strobeWidthsAreComputed : Obligations.StrobeWidthsAreComputed := by
  refine ⟨fun st t => ⟨temperatureWidth_of_below st, temperatureWidth_of_above st,
      fun i d segment offset ht => temperatureWidth_of_between st segment offset ht,
      fun i point ht => temperatureWidth_of_point st point ht⟩,
    fun st t => rfl, fun st t d darkness => ?fallback,
    fun wd v => ⟨voltageWidth_of_below wd, voltageWidth_of_between wd, voltageWidth_of_above wd, ?reference⟩,
    fun st wv g => ⟨rfl, rfl, hotWidth_le_coldWidth st wv g, (hotWidth_mem st wv g).1, (coldWidth_mem st wv g).2⟩,
    fun st wv row history g => ⟨rfl, fun x => eq_groupFire_of_mem_firingGroups st wv row history,
      groupFire_mem_firingGroups st wv row history g, blackCount_groupDots row g, groupFire_strobe_of_cold st wv,
      groupFire_strobe_of_no_cold st wv, fun i => ⟨groupFire_onTime_of_cold st wv,
        groupFire_onTime_of_hot st wv, groupFire_onTime_of_white st wv⟩⟩,
    fun s dot => ⟨fun still => dotOn_of_not_firing still dot,
      fun r ph rest firing underWay first _ => dotOn_iff_of_firing firing underWay first dot⟩,
    fun s => ⟨rowHistory_of_no_idle_timer, fun start => rowHistory_of_idle_timer, fun row => rfl,
      fun notReset row inHand => rowEnded_of_dots notReset inHand s.now,
      fun n inHand => rowEnded_history_of_feed inHand s.now⟩,
    fun paper lid v r s => ⟨_, exec_powerOn paper lid v r s, rfl, rfl⟩,
    fun s => ⟨sameHistory_syncHolds rfl, fun x => ⟨rfl, rfl⟩, ⟨rfl, rfl⟩,
      sameHistory_of_head_eq s (finishLine_head s), fun q => sameHistory_of_head_eq s (grant_head s q),
      fun w => ⟨rfl, rfl⟩, sameHistory_sampleSupply s, sameHistory_readThermistor s⟩,
    fun s row run started => ?range⟩
  case fallback => rw [darknessWidth, if_pos rfl, darkness, fallbackWidth_table]
  case reference =>
    rintro rfl
    exact voltageWidth_reference wd
  case range =>
    obtain rfl := Option.some.inj started
    refine ⟨rfl, fun ph inRow f inPhase => ?_⟩
    rw [eq_groupFire_of_mem_rowPhases inRow inPhase]
    exact groupFire_strobe_mem ..

end Sys2Proof.Machine
end

section
/-!
SUPPORT. The taking of a command that its length check lets through (R168, R169), and NONE, which is taken whatever its payload (R170); then what CLEAR CAUSES makes of each block, cause by cause (R173).
-/

namespace Sys2Proof.Machine

/-! ## Taking a command (R168, R169) -/

theorem lengthOk_of_le {fixed : Nat} {p : List Byte} (present : fixed ≤ p.length) (short : p.length ≤ 72) :
    lengthOk fixed p = true := by
  simp [lengthOk, present, short]

/-- A command whose length is right completes with what its own checks and its effect make of the woken part. -/
theorem completes_of_checked {c : Instr} {n : Nat} {p : List Byte} {body : State → State × Response} {s t : State}
    {r : Response} (taken : exec c s = .next (s.take (checked n p body))) (ok : lengthOk n p = true)
    (out : body (s.wake .command) = (t, r)) : Completes c s (t.respond r) := by
  have settled := take_settled s (checked n p body)
  rw [checked_ok ok, out] at settled
  exact ⟨_, taken, settled⟩

/-! ## NONE (R170) -/

theorem exec_noneCommand (p : List Byte) (s : State) : exec (.noneCommand p) s = .next (s.wake .command).finishEvent := rfl

/-- The follow-ups of an event leave the power state. -/
theorem State.Kept.power {a b : State} (kept : a.Kept b) : b.mon.power = a.mon.power :=
  (congrArg Monitor.power kept.monitor :)

/-- Settles O6: NONE is the wake and its follow-ups, and neither writes the response buffer. -/
theorem noneLeavesResponse : Obligations.NoneLeavesResponse := by
  intro p q s
  have kept := kept_finishEvent (s.wake .command)
  exact ⟨(exec_noneCommand p s).trans (exec_noneCommand q s).symm,
    ⟨_, exec_noneCommand p s, settled_finishEvent _⟩,
    _, exec_noneCommand p s, kept.power.trans (wake_power _ _), kept.response.trans (wake_response _ _)⟩

/-! ## Sets of causes (R173, R178, section 12.5) -/

/-- The bit of each cause, as section 12.5 gives it. -/
theorem causeBit_table : ∀ c ∈ [(Cause.keyLost, 0), (.noticeLost, 1), (.jobError, 2), (.lineLost, 3), (.recordError, 4)]
      ++ [(.routeOverflow, 5), (.thermalHold, 6), (.supplyHold, 7), (.paperHold, 8), (.sensorFallback, 9)],
    c.1.bit = c.2 := by decide

theorem causeSet?_of_lt {n : Nat} (within : n < 1024) : causeSet? n = some (BitVec.ofNat 10 n) := if_pos within

theorem causeSet?_of_le {n : Nat} (past : 1024 ≤ n) : causeSet? n = none := if_neg (Nat.not_lt.mpr past)

/-- Of a set of causes, those stay that are not named or whose condition lasts. -/
theorem namesCause_cleared (causes x lasting : BitVec 10) (c : Cause) :
    namesCause (causes &&& (~~~x ||| lasting)) c
      = (namesCause causes c && (!namesCause x c || namesCause lasting c)) := by
  simp [namesCause_eq_getLsbD, c.bit_lt]

/-- Only a Monitor cause has a condition that can last (R163). -/
theorem namesCause_lasting_of_other {c : Cause}
    (ofAnotherBlock : c ∈ [Cause.keyLost, .noticeLost, .jobError, .lineLost, .recordError, .routeOverflow]) (m : Monitor) :
    namesCause m.lasting c = false := by
  have notMonitors : c ≠ .thermalHold ∧ c ≠ .supplyHold ∧ c ≠ .paperHold ∧ c ≠ .sensorFallback := by
    revert c; decide
  simp [namesCause_lasting, notMonitors]

/-! ## What CLEAR CAUSES makes of each block (R173) -/

/-- Every Overflow flag is cleared, and nothing else of a route changes (R83). -/
theorem route_clearOverflow (st : Store) (n : Fin 16) :
    st.clearOverflow.route n = { st.route n with overflow := false } := by
  simp [Store.route, Store.clearOverflow]

/-- CLEAR CAUSES replaces the port, the Record Engine and the Shared Store, each by its own rule, and no other block. -/
theorem clearCauses_eq (s : State) (x : BitVec 10) : s.clearCauses x =
    ((s.setPort { s.port with causes := s.port.causes &&& (~~~x ||| s.mon.lasting) }).setEngine
      (if namesCause x .recordError then { s.engine with counts := {} } else s.engine)).setStore
      (if namesCause x .routeOverflow then s.store.clearOverflow else s.store) := by
  unfold State.clearCauses
  cases namesCause x .recordError <;> cases namesCause x .routeOverflow <;> rfl

section
variable (s : State) (x : BitVec 10)

theorem clearCauses_engine : (s.clearCauses x).engine
    = if namesCause x .recordError then { s.engine with counts := {} } else s.engine := by
  rw [clearCauses_eq]; rfl

theorem clearCauses_store : (s.clearCauses x).store
    = if namesCause x .routeOverflow then s.store.clearOverflow else s.store := by
  rw [clearCauses_eq]; rfl

/-- A named cause is cleared unless its condition lasts; a cause not named stays. -/
theorem namesCause_clearCauses (c : Cause) : namesCause (s.clearCauses x).port.causes c
    = (namesCause s.port.causes c && (!namesCause x c || namesCause s.mon.lasting c)) := by
  rw [clearCauses_eq]
  exact namesCause_cleared ..

theorem clearCauses_mask : (s.clearCauses x).port.mask = s.port.mask := by rw [clearCauses_eq]; rfl

/-- With the port, the Record Engine and the Shared Store put back, the state is as it was. -/
theorem clearCauses_restored :
    (((s.clearCauses x).setPort s.port).setEngine s.engine).setStore s.store = s := by
  rw [clearCauses_eq]; rfl

theorem clearCauses_route (n : Fin 16) : (s.clearCauses x).store.route n
    = if namesCause x .routeOverflow then { s.store.route n with overflow := false } else s.store.route n := by
  rw [clearCauses_store, apply_ite (Store.route · n), route_clearOverflow]

/-- Of the Shared Store only the Route Table changes. -/
theorem clearCauses_store_frame : (s.clearCauses x).store.softKeys = s.store.softKeys
    ∧ (s.clearCauses x).store.glyphs = s.store.glyphs ∧ (s.clearCauses x).store.energy = s.store.energy
    ∧ (s.clearCauses x).store.remoteMask = s.store.remoteMask := by
  rw [clearCauses_store]
  split <;> exact ⟨rfl, rfl, rfl, rfl⟩

end

/-! ## The CLEAR CAUSES command -/

theorem exec_clearCauses (p : List Byte) (s : State) :
    exec (.clearCauses p) s = .next (s.take (checked 2 p (clearCausesBody p))) := rfl

theorem clearCausesBody_of_lt {p : List Byte} (within : wordAt p 0 < 1024) (s : State) : clearCausesBody p s =
    (s.clearCauses (BitVec.ofNat 10 (wordAt p 0))).done
      (wordBytes (s.clearCauses (BitVec.ofNat 10 (wordAt p 0))).port.causes.toNat) :=
  field_some (causeSet?_of_lt within) _ s

theorem clearCausesBody_of_le {p : List Byte} (past : 1024 ≤ wordAt p 0) (s : State) :
    clearCausesBody p s = s.refuse .badField :=
  field_none (causeSet?_of_le past) _ s

/-- Settles O12: every cause is cleared by one rule, in which only a Monitor cause can last; the other clauses are the blocks of the cleared state. -/
theorem clearCausesKeepsLasting : Obligations.ClearCausesKeepsLasting := by
  refine ⟨fun x c listed => ?bits, fun p s present short => ?_⟩
  case bits => rw [namesCause_eq_getLsbD, causeBit_table c listed]
  have ok := lengthOk_of_le present short
  refine ⟨fun past => completes_of_checked (exec_clearCauses p s) ok (clearCausesBody_of_le past _), fun within => ?_⟩
  let w := s.wake .command
  let x := BitVec.ofNat 10 (wordAt p 0)
  refine ⟨w.clearCauses x, completes_of_checked (exec_clearCauses p s) ok (clearCausesBody_of_lt within _),
    fun c ofAnotherBlock => ?others, ?thermal, ?supply, ?paper, ?fallback, clearCauses_engine w x, clearCauses_route w x,
    clearCauses_restored w x, ?frame⟩
  case others => rw [namesCause_clearCauses, namesCause_lasting_of_other ofAnotherBlock, Bool.or_false]
  case thermal | supply | paper | fallback => rw [namesCause_clearCauses, namesCause_lasting]; simp [w, x]
  case frame =>
    obtain ⟨softKeys, glyphs, energy, remoteMask⟩ := clearCauses_store_frame w x
    exact ⟨softKeys, glyphs, energy, remoteMask, clearCauses_mask w x⟩

end Sys2Proof.Machine
end

section
/-!
SUPPORT. What a step can do, said once: the bodies of the Controller Port's commands, the effects of the events and expiries with the conditions under which they come, and so how a property passes over a step.
-/

namespace Sys2Proof.Machine

/-! ## The commands of the Controller Port (section 12.4) -/

/-- A controller command with a response of its own: the bytes of its fixed fields, its payload, and what it does once its length is right. -/
def portBody : Instr → Option (Nat × List Byte × (State → State × Response))
  | .configLine p => some (16, p, configLineBody p)
  | .lineOn p => some (0, p, fun s => s.lineOn.done [])
  | .lineOff p => some (0, p, fun s => s.lineOff.done [])
  | .setFilter p => some (8, p, setFilterBody p)
  | .setMask p => some (4, p, setMaskBody p)
  | .setDefaultAction p => some (2, p, setDefaultActionBody p)
  | .configFlow p => some (7, p, configFlowBody p)
  | .loadSlot p => some (3, p, loadSlotBody p)
  | .requestSlot p => some (1, p, requestSlotBody p)
  | .abortSlot p => some (1, p, abortSlotBody p)
  | .sendText p => some (0, p, sendTextBody p)
  | .sendBreak p => some (0, p, fun s => s.requestBreak.done [])
  | .writeStore p => some (2, p, writeStoreBody p)
  | .readStore p => some (2, p, readStoreBody p)
  | .setRemoteMask p => some (4, p, setRemoteMaskBody p)
  | .configKeyboard p => some (7, p, configKeyboardBody p)
  | .writeKeymap p => some (4, p, writeKeymapBody p)
  | .readKeymap p => some (2, p, readKeymapBody p)
  | .print p => some (2, p, printBody p)
  | .cancelJob p => some (1, p, cancelJobBody p)
  | .pausePrint p => some (0, p, fun s => (s.setPause true).done [])
  | .resumePrint p => some (0, p, fun s => (s.setPause false).done [])
  | .configPrint p => some (15, p, configPrintBody p)
  | .readQueue p => some (1, p, readQueueBody p)
  | .readStatus p => some (0, p, fun s => s.done s.statusResponse)
  | .clearCauses p => some (2, p, clearCausesBody p)
  | .setAttnMask p => some (2, p, setAttnMaskBody p)
  | .resetUnit p => some (1, p, resetUnitBody p)
  | .doze p => some (0, p, dozeBody)
  | _ => none

/-- A controller command is taken: length checks, then its body, in the one event of R168. -/
theorem exec_of_portBody {c : Instr} {n : Nat} {p : List Byte} {body : State → State × Response}
    (command : portBody c = some (n, p, body)) (s : State) : exec c s = .next (s.take (checked n p body)) := by
  cases c <;> cases command <;> rfl

/-- A selection spells a controller command or NONE, and is taken as that command (R168, R178). -/
theorem commandOfCode_cases {code : Byte} {p : List Byte} {c : Instr} (spelt : commandOfCode code p = some c) :
    (∃ q, c = .noneCommand q) ∨ ∃ n q body, portBody c = some (n, q, body) := by
  unfold commandOfCode at spelt
  split at spelt <;> cases spelt <;> simp [portBody]

theorem execSelected_of_portBody {c : Instr} {n : Nat} {p : List Byte} {body : State → State × Response}
    (command : portBody c = some (n, p, body)) (s : State) : execSelected c s = exec c s := by
  cases c <;> cases command <;> rfl

theorem selectionCommand_cases {bytes : List Byte} {c : Instr} (spelt : selectionCommand bytes = some c) :
    ∃ code p, commandOfCode code p = some c := by
  unfold selectionCommand at spelt
  split at spelt
  · exact ⟨_, _, spelt⟩
  · cases spelt

/-! ## The effects of events and expiries -/

/-- What an event or an expiry makes of the state before its follow-ups, and the condition under which it comes. -/
inductive State.Effect (s : State) : State → Prop
  | clock : s.Effect s
  | wake : s.Effect (s.wake .command)
  | carrierOn : s.Effect (s.setCarrier true).carrierOn
  | carrierOff : s.Effect (s.setCarrier false).carrierOff
  | enterOnline (qualify : s.line.state = .qualify) : s.Effect s.enterOnline
  | backToListen (qualify : s.line.state = .qualify) : s.Effect s.backToListen
  | enterFade (online : s.line.state = .online) (speed : s.line.settings.speed = .sb300) : s.Effect s.enterFade
  | fadeBack (fade : s.line.state = .fade) : s.Effect s.fadeBack
  | loseLine : s.Effect s.loseLine
  | enterTalking (taking : s.line.turned .taking = true) : s.Effect s.enterTalking
  | toListening (releasing : s.line.turned .releasing = true) : s.Effect s.toListening
  | receive (receiving : s.line.receiving = true) (data : Byte) (parity stop : Bool) (edge : Option Nat) :
      s.Effect (s.receive data parity stop edge)
  | takeBreak (receiving : s.line.receiving = true) : s.Effect s.takeBreak
  | releaseHeld (receiving : s.line.receiving = true) : s.Effect s.releaseHeld
  | endBreak : s.Effect s.endBreak
  | abandonGap : s.Effect (s.abandon .gap)
  | endItem : s.Effect s.endItem
  | scan (closed : BitVec 96) : s.Effect (s.scanMatrix closed)
  | repeatNow : s.Effect s.repeatNow
  | stallHolder : s.Effect s.stallHolder
  | endPhase : s.Effect s.endPhase
  | endRow : s.Effect s.endRow
  | endSettle : s.Effect s.endSettle
  | inputChange (i : Sensor) (level : Bool) : s.Effect (s.inputChange i level)
  | inputStable (i : Sensor) : s.Effect (s.inputStable i)
  | supplySample (v : BitVec 16) : s.Effect (s.setPins { s.pins with supply := v }).sampleSupply
  | thermistorReading (r : Int) : s.Effect (s.setPins { s.pins with therm := r }).readThermistor

/-- What a command that runs on `s` can answer. -/
inductive State.Answers (s : State) : State → Prop
  | stays : s.Answers s
  | powerOn (paper lid : Bool) (v : BitVec 16) (r : Int) : s.Answers (s.powerOn paper lid v r)
  | discarded : s.Answers (s.respond { result := .badField })
  | unknown : s.Answers (s.take fun s => s.refuse .unknown)
  | taken {c : Instr} {n : Nat} {p : List Byte} {body : State → State × Response}
      (command : portBody c = some (n, p, body)) : s.Answers (s.take (checked n p body))
  | effect {a : State} (now : Nat) (effect : (s.setNow now).Effect a) : s.Answers a.finishEvent

section
variable {s : State}

theorem answers_expiry {due : Option Nat} {f : State → State}
    (effect : ∀ t, due = some t → ∀ now, (s.setNow now).Effect (f (s.setNow now))) : s.Answers (s.expiry due f) := by
  cases due with
  | none => exact .stays
  | some t => exact .effect _ (effect t rfl _)

theorem answers_event {happens : Bool} {f : State → State}
    (effect : happens = true → (s.setNow s.now).Effect (f s)) : s.Answers (s.event happens f) := by
  cases happens with
  | false => exact .stays
  | true => exact .effect s.now (effect rfl)

theorem whenever_eq_some {c : Bool} {due : Option Nat} {t : Nat} (h : whenever c due = some t) : c = true := by
  cases c with
  | true => rfl
  | false => cases h

/-- The meaning of a command of the Controller Port given as itself or as a selection. -/
theorem answers_of_portBody {c : Instr} {n : Nat} {p : List Byte} {body : State → State × Response}
    (command : portBody c = some (n, p, body)) {t : State} (run : exec c s = .next t) : s.Answers t := by
  rw [exec_of_portBody command] at run
  cases run
  exact .taken command

theorem answers_shortSelection {bytes : List Byte} {t : State} (run : execShortSelection bytes s = .next t) :
    s.Answers t := by
  unfold execShortSelection at run
  split at run
  · cases run; exact .discarded
  · split at run
    · next c spelt =>
      obtain ⟨code, p, spelt⟩ := selectionCommand_cases spelt
      obtain ⟨q, rfl⟩ | ⟨n, q, body, command⟩ := commandOfCode_cases spelt
      · cases run; exact .effect s.now .wake
      · rw [execSelected_of_portBody command] at run
        exact answers_of_portBody command run
    · cases run; exact .unknown

/-- Every command answers one of the cases of `Answers`. -/
theorem answers_of_exec {c : Instr} {t : State} (run : exec c s = .next t) : s.Answers t := by
  cases c with
  | powerOn => cases run; exact .powerOn _ _ _ _
  | shortSelection bytes => exact answers_shortSelection run
  | noneCommand p => cases run; exact .effect s.now .wake
  | carrierAppears => cases run; exact answers_event fun _ => .carrierOn
  | carrierEnds => cases run; exact answers_event fun _ => .carrierOff
  | qualifyTimeExpiry =>
    cases run; exact answers_expiry fun t h now => .enterOnline (by simpa using whenever_eq_some h)
  | qualifyDropoutExpiry =>
    cases run; exact answers_expiry fun t h now => .backToListen (by simpa using whenever_eq_some h)
  | lossDelayExpiry =>
    cases run
    refine answers_expiry fun t h now => ?_
    have cond := whenever_eq_some h
    simp only [Bool.and_eq_true, beq_iff_eq] at cond
    exact .enterFade cond.1 cond.2
  | fadeReturn => cases run; exact answers_expiry fun t h now => .fadeBack (by simpa using whenever_eq_some h)
  | fadeDropExpiry => cases run; exact answers_expiry fun _ _ _ => .loseLine
  | ta1200DropExpiry => cases run; exact answers_expiry fun _ _ _ => .loseLine
  | turnaroundGapExpiry => cases run; exact answers_expiry fun _ _ _ => .clock
  | leadInEnd => cases run; exact answers_expiry fun t h now => .enterTalking (whenever_eq_some h)
  | talkLimitExpiry => cases run; exact answers_expiry fun _ _ _ => .clock
  | tailEnd => cases run; exact answers_expiry fun t h now => .toListening (whenever_eq_some h)
  | characterReceived => cases run; exact answers_event fun h => .receive h _ _ _ _
  | breakDetected => cases run; exact answers_event fun h => .takeBreak (Bool.and_eq_true_iff.mp h).1
  | heldCharacterRelease => cases run; exact answers_event fun h => .releaseHeld (Bool.and_eq_true_iff.mp h).1
  | gapTimerExpiry => cases run; exact answers_expiry fun _ _ _ => .abandonGap
  | replyReady => cases run; exact answers_expiry fun _ _ _ => .clock
  | transmitItemEnd => cases run; exact answers_expiry fun _ _ _ => .endItem
  | scan closed => cases run; exact answers_expiry fun _ _ _ => .scan closed
  | repeatTimerExpiry => cases run; exact answers_expiry fun _ _ _ => .repeatNow
  | partialLineExpiry => cases run; exact answers_expiry fun _ _ _ => .clock
  | jobStallExpiry => cases run; exact answers_expiry fun _ _ _ => .stallHolder
  | phaseEnd => cases run; exact answers_expiry fun _ _ _ => .endPhase
  | rowPeriodEnd => cases run; exact answers_expiry fun _ _ _ => .endRow
  | settleExpiry => cases run; exact answers_expiry fun _ _ _ => .endSettle
  | sensorInputChange i level => cases run; exact answers_event fun _ => .inputChange i level
  | sensorStableExpiry i => cases run; exact answers_expiry fun _ _ _ => .inputStable i
  | supplySample v => cases run; exact answers_expiry fun _ _ _ => .supplySample v
  | thermistorReading r => cases run; exact answers_expiry fun _ _ _ => .thermistorReading r
  | breakEnd => cases run; exact answers_event fun _ => .endBreak
  | configLine | lineOn | lineOff | setFilter | setMask | setDefaultAction | configFlow | loadSlot | requestSlot | abortSlot
  | sendText | sendBreak | writeStore | readStore | setRemoteMask | configKeyboard | writeKeymap | readKeymap | print
  | cancelJob | pausePrint | resumePrint | configPrint | readQueue | readStatus | clearCauses | setAttnMask | resetUnit
  | doze => exact answers_of_portBody rfl run

/-- A step answers what a command answers on the state without that command, or with the free choice of a due timer counted. -/
theorem answers_of_step {t : State} (run : step s = .next t) :
    ∃ pending choices, ((s.setPending pending).setChoices choices).Answers t := by
  unfold step at run
  split at run
  · unfold idle at run
    split at run
    · cases run; exact ⟨s.pending, s.choices, .effect (s.now + 1) .clock⟩
    · next first others _ =>
      cases others with
      | nil => exact ⟨s.pending, s.choices, answers_of_exec run⟩
      | cons => exact ⟨s.pending, s.choices + 1, answers_of_exec run⟩
  · next c rest _ => exact ⟨rest, s.choices, answers_of_exec run⟩

end

/-- How a property passes over a step: `P` before it, `Q` from the event on. -/
theorem step_establishes {P Q : State → Prop}
    (frame : ∀ s pending choices, P s → P ((s.setPending pending).setChoices choices))
    (now : ∀ s n, P s → P (s.setNow n)) (wake : ∀ s, P s → P (s.wake .command))
    (stays : ∀ s, P s → Q s) (power : ∀ s paper lid v r, P s → Q (s.powerOn paper lid v r))
    (respond : ∀ s r, Q s → Q (s.respond r)) (finish : ∀ s, Q s → Q s.finishEvent)
    (body : ∀ (c : Instr) n p b, portBody c = some (n, p, b) → ∀ s, P s → Q (b s).1)
    (effect : ∀ s a, P s → s.Effect a → Q a) {s t : State} (before : P s) (run : step s = .next t) : Q t := by
  obtain ⟨pending, choices, answers⟩ := answers_of_step run
  have start := frame s pending choices before
  cases answers with
  | stays => exact stays _ start
  | powerOn => exact power _ _ _ _ _ start
  | discarded => exact respond _ _ (stays _ start)
  | unknown => exact finish _ (respond _ _ (stays _ (wake _ start)))
  | taken command =>
    refine finish _ (respond _ _ ?_)
    unfold checked
    split
    · exact body _ _ _ _ command _ (wake _ start)
    · exact stays _ (wake _ start)
  | effect n a => exact finish _ (effect _ _ (now _ n start) a)

end Sys2Proof.Machine
end

section
/-!
SUPPORT. The commands, the events and the expiries keep the bounds, the account of the cells and the pool.
-/

namespace Sys2Proof.Machine

section
variable {s : State}

/-! ## The carrier and the line states -/

theorem State.Sound.setTimers (h : s.Sound) (x : LineTimers) : (s.setTimers x).Sound := h.setLine _

theorem State.Sound.carrierInTurn (h : s.Sound) : s.carrierInTurn.Sound := by
  unfold State.carrierInTurn
  split
  · exact h.setTimers _
  · exact h.toListening.setLine _
  · exact h.toListening
  · exact h
  · exact h

theorem State.Sound.carrierOn (h : s.Sound) : s.carrierOn.Sound := by
  unfold State.carrierOn
  split
  · exact h
  · exact h.takeCarrier
  · exact h.setTimers _
  · split
    · exact h.setTimers _
    · exact h.carrierInTurn
  · exact h.setTimers _

theorem State.Sound.carrierOff (h : s.Sound) : s.carrierOff.Sound := by
  unfold State.carrierOff
  split
  · exact h
  · exact h
  · exact h.setTimers _
  · split
    · exact h.setTimers _
    · split
      · exact h.setTimers _
      · exact h
  · exact h.setTimers _

theorem State.Sound.lineOn (h : s.Sound) : s.lineOn.Sound := by
  unfold State.lineOn
  split
  · exact (h.setLine _).takeCarrier
  · exact h

theorem State.Sound.lineOff (h : s.Sound) : s.lineOff.Sound := by
  unfold State.lineOff
  split
  · exact h
  · exact (h.setLine _).endConnection.postLineState

/-! ## Reception -/

theorem State.Sound.offerText (h : s.Sound) (c : Byte) (marked : Bool) : (s.offerText c marked).Sound := by
  unfold State.offerText
  split
  · next room => exact h.pushRtq _ (Nat.succ_le_of_lt room)
  · exact h.routeDrop _

theorem Store.PoolOk.remoteWrite {st : Store} (h : st.PoolOk) (w : StoreWrite) (fits : st.fits w = true)
    (short : ∀ n k, w = .softKey n k → k.string.length ≤ 64) : (st.remoteWrite w).PoolOk := by
  cases w with
  | route n e => exact h.setRoute n _
  | softKey n k => exact h.write _ fits short
  | glyph n g => exact { h with }
  | energy n v => exact { h with }

theorem State.Sound.act (h : s.Sound) {r : Assembly} (filter : Nat) {a : RecordAction} (examined : s.examine r = .inr a) :
    (s.act r filter a).Sound := by
  unfold State.examine at examined
  split at examined
  · cases examined
  split at examined
  · cases examined
  split at examined
  · split at examined
    · next room => cases examined; exact h.pushRtq _ (by simpa [Config.rtqCap] using room)
    · cases examined
  split at examined
  · split at examined
    · next fits => cases examined; exact h.admitSegment _ _ _ _ fits
    · cases examined
  split at examined
  · split at examined
    · cases examined
    · cases examined
    · next w checked =>
      split at examined
      · cases examined
      split at examined
      · cases examined
      next fits =>
        cases examined
        exact (h.setStore _ (h.pool.remoteWrite w (by simpa using fits)
          fun n k e => checkStore_string (e ▸ checked))).post _
  split at examined
  · cases examined; exact h
  split at examined
  · cases examined; exact h.cancelJob _
  split at examined
  · next room => cases examined; exact h.pushCrq _ room
  · cases examined

theorem State.Sound.answer (h : s.Sound) (r : Assembly) (o : OutRecord) : (s.answer r o).Sound := by
  rw [answer_eq]
  exact h.setEngine _

theorem State.Sound.decide (h : s.Sound) (r : Assembly) : (s.decide r).Sound := by
  unfold State.decide
  split
  · dsimp only
    split
    · exact h.answer _ _
    · split
      · exact h.answer _ _
      · next a examined =>
        refine State.Sound.answer ?_ _ _
        split
        · exact (h.act _ examined).post _
        · exact h.act _ examined
  · exact h

theorem State.Sound.assemble (h : s.Sound) (rx : RxState) (r : Assembly) : (s.assemble rx r).Sound := h.setEngine _

theorem State.Sound.recordCharacter (h : s.Sound) (c : Byte) (marked : Bool) (edge : Option Nat) :
    (s.recordCharacter c marked edge).Sound := by
  unfold State.recordCharacter
  split
  · exact h.abandon _
  split
  · exact h
  · unfold State.takeMarker
    split
    · exact (h.assemble _ _).setLine _
    · exact h.abandon _
  · unfold State.takeHeader
    split
    · exact h.assemble _ _
    · exact h.abandon _
  · exact h.assemble _ _
  · exact h.assemble _ _
  · exact h.assemble _ _
  · unfold State.takeCheck
    split
    · exact h.assemble _ _
    · split
      · exact h.dropRecord.decide _
      · exact h.abandon _

theorem State.Sound.handOn (h : s.Sound) (c : Byte) (marked : Bool) (edge : Option Nat) : (s.handOn c marked edge).Sound := by
  unfold State.handOn
  split
  · exact h.offerText _ _
  · exact h.recordCharacter _ _ _

theorem State.Sound.releaseHeld (h : s.Sound) : s.releaseHeld.Sound := by
  unfold State.releaseHeld
  split
  · exact (h.setLine _).handOn _ _ _
  · exact h

theorem State.Sound.endBreak (h : s.Sound) : s.endBreak.Sound := by
  unfold State.endBreak
  split
  · exact h.setLine _
  · exact (h.setLine _).setEngine _

theorem State.Sound.receive (h : s.Sound) (data : Byte) (parity stop : Bool) (edge : Option Nat) :
    (s.receive data parity stop edge).Sound := by
  have ended : (if s.line.inBreak then s.endBreak else s).Sound := by
    split
    · exact h.endBreak
    · exact h
  unfold State.receive
  extract_lets s0 s1 s2 f
  split
  · exact (ended.releaseHeld.expireGap _).holdCharacter
  · exact (ended.releaseHeld.expireGap _).handOn _ _ _

theorem State.Sound.takeBreak (h : s.Sound) : s.takeBreak.Sound := by
  have broken := (h.expireGap s.gapBeforeBreak).setLine
    { (s.expireGap s.gapBeforeBreak).line with held := false, inBreak := true }
  unfold State.takeBreak
  split
  · exact broken.dropRecord.setEngine _
  · exact broken.post _
  · exact broken.post _

/-! ## Slots, cancels, the Head Drive and the Monitor -/

theorem State.Sound.setSlot (h : s.Sound) (n : Fin 4) (x : Slot) : (s.setSlot n x).Sound := h.setTx _ h.ttq

theorem State.Sound.abortSlot (h : s.Sound) (n : Fin 4) : (s.abortSlot n).Sound := by
  unfold State.abortSlot
  split
  · exact (h.setSlot _ _).post _
  · exact h.setSlot _ _
  all_goals exact h

theorem State.Sound.stallHolder (h : s.Sound) : s.stallHolder.Sound := by
  unfold State.stallHolder
  split
  · exact h.stallJob _
  · exact h

theorem State.Sound.compareStall (h : s.Sound) : s.compareStall.Sound := by
  unfold State.compareStall
  split
  · split
    · exact h.stallJob _
    · exact h
  · exact h

theorem State.Sound.configPrint (h : s.Sound) (x : PrintSettings) : (s.configPrint x).Sound := by
  have written : (s.writePrint x).Sound :=
    (((h.setArb { s.arb with settings := x.arbiter } rfl rfl rfl rfl).setComp _ (by exact h.rows)).setHead _).setMon _
  exact written.watchStall.compareStall.recomputeLimit.compareThermal

theorem State.Sound.endPhase (h : s.Sound) : s.endPhase.Sound := by
  unfold State.endPhase
  split
  · exact h
  split
  · exact h.setHead _
  · split
    · exact h.endRow
    · exact (h.setHead _).moveHead _

theorem State.Sound.repeatNow (h : s.Sound) : s.repeatNow.Sound := by
  unfold State.repeatNow
  split
  · exact h.repeatExpiry _
  · exact h

end

/-! ## Every step -/

/-- The body of every controller command keeps the bounds. -/
theorem sound_portBody {c : Instr} {n : Nat} {p : List Byte} {body : State → State × Response}
    (command : portBody c = some (n, p, body)) : ∀ t : State, t.Sound → (body t).1.Sound := by
  cases c <;> cases command
  case configLine =>
    intro t h
    unfold configLineBody
    split
    · exact State.Sound.field (fun _ _ _ k => k.setLine _) t h
    · exact h
  case lineOn => exact fun t h => h.lineOn
  case lineOff => exact fun t h => h.lineOff
  case setFilter =>
    refine State.Sound.field fun n _ t h => ?_
    split
    · exact State.Sound.field (fun _ _ _ k => k.setEngine _) t h
    · exact h
  case setMask =>
    refine State.Sound.field fun n _ t h => ?_
    split
    · exact State.Sound.field (fun _ _ _ k => k.setEngine _) t h
    · exact h
  case setDefaultAction => exact State.Sound.field fun _ _ _ h => h.setEngine _
  case configFlow => exact State.Sound.field fun _ _ _ h => (h.setTx _ (by exact h.ttq)).flowCompare
  case loadSlot =>
    refine State.Sound.field fun n _ t h => ?_
    split
    · exact State.Sound.field (fun _ _ _ k => k.setSlot _ _) t h
    · exact h
  case requestSlot =>
    refine State.Sound.field fun n _ t h => ?_
    split
    · exact h.setSlot _ _
    · exact h
  case abortSlot => exact State.Sound.field fun _ _ _ h => h.abortSlot _
  case sendText =>
    intro t h
    unfold sendTextBody
    split
    · next room => exact h.pushTtq _ room
    · exact h
  case sendBreak => exact fun t h => h.requestBreak
  case writeStore =>
    intro t h
    unfold writeStoreBody
    split
    · exact h
    · exact h
    · next w checked =>
      split
      · next fits => exact h.setStore _ (h.pool.write _ fits fun n k e => checkStore_string (e ▸ checked))
      · exact h
  case readStore => exact fun t h => State.Sound.field (fun _ _ _ k => k) t h
  case setRemoteMask => exact State.Sound.field fun _ _ _ h => h.setStore _ { h.pool with }
  case configKeyboard => exact State.Sound.field fun _ _ _ h => h.setKeys _ h.down h.events
  case writeKeymap =>
    exact State.Sound.field fun _ _ => State.Sound.field fun _ _ => State.Sound.field fun _ _ _ h =>
      h.setKeys _ h.down h.events
  case readKeymap => exact State.Sound.field fun _ _ => State.Sound.field fun _ _ _ h => h
  case print =>
    refine State.Sound.field fun x _ t h => ?_
    split
    · next fits => exact h.admitSegment _ _ _ _ fits
    · exact h
  case cancelJob => exact State.Sound.field fun _ _ _ h => h.cancelJob _
  case pausePrint => exact fun t h => h.setArb _ rfl rfl rfl rfl
  case resumePrint => exact fun t h => h.setArb _ rfl rfl rfl rfl
  case configPrint => exact State.Sound.field fun _ _ _ h => h.configPrint _
  case readQueue => exact fun t h => h.setCrq _ (Nat.le_trans (packQueue_suffix _ _ _) h.crq)
  case readStatus => exact fun t h => h
  case clearCauses => exact State.Sound.field fun _ _ _ h => h.clearCauses _
  case setAttnMask => exact State.Sound.field fun _ _ _ h => h.setPort _
  case resetUnit => exact State.Sound.field fun _ _ _ h => h.resetUnit _
  case doze =>
    intro t h
    unfold dozeBody
    split
    · exact h.enterDoze
    · exact h

theorem sound_effect {s a : State} (h : s.Sound) (effect : s.Effect a) : a.Sound := by
  cases effect with
  | clock => exact h
  | wake => exact h.wake _
  | carrierOn => exact (h.setPins _).carrierOn
  | carrierOff => exact (h.setPins _).carrierOff
  | enterOnline => exact h.enterOnline
  | backToListen => exact h.setLine _
  | enterFade => exact (h.dropRecord.setLine _).postLineState
  | fadeBack => exact (h.setLine _).postLineState
  | loseLine => exact h.loseLine
  | enterTalking => exact h.setLine _
  | toListening => exact h.toListening
  | receive => exact h.receive _ _ _ _
  | takeBreak => exact h.takeBreak
  | releaseHeld => exact h.releaseHeld
  | endBreak => exact h.endBreak
  | abandonGap => exact h.abandon _
  | endItem => exact h.endItem
  | scan => exact h.scanMatrix _
  | repeatNow => exact h.repeatNow
  | stallHolder => exact h.stallHolder
  | endPhase => exact h.endPhase
  | endRow => exact h.endRow
  | endSettle => exact (h.setHead _).nextRow
  | inputChange => exact h.inputChange _ _
  | inputStable => exact h.inputStable _
  | supplySample => exact (h.setPins _).sampleSupply
  | thermistorReading => exact (h.setPins _).readThermistor

/-- Settles O58: what a step can do (`step_establishes`), each part of which keeps the bounds and the accounts. -/
theorem stepKeepsCapacities : Obligations.StepKeepsCapacities := by
  intro s t sound run
  exact step_establishes (P := State.Sound) (Q := State.Sound)
    (frame := fun _ _ _ h => (h.setPending _).setChoices _) (now := fun _ _ h => h.setNow _) (wake := fun _ h => h.wake _)
    (stays := fun _ h => h) (power := fun s _ _ _ _ _ => State.Sound.powerOn s _ _ _ _) (respond := fun _ _ h => h.setPort _)
    (finish := fun _ h => h.finishEvent) (body := fun _ _ _ _ command => sound_portBody command)
    (effect := fun _ _ => sound_effect) sound run

end Sys2Proof.Machine
end

section
/-!
SUPPORT. What the agreement of line, direction, flow, reception and transmission (`State.LineOk`) reads of a state, which operations leave that as it is, and how the others keep the agreement.
-/

namespace Sys2Proof.Machine

/-! ## What the agreement reads -/

/-- The parts of the state that `State.LineOk` speaks of. -/
def State.lineView (s : State) : Option Direction × LineState × LineSettings × FlowState × Progress × Bool × RxState :=
  (s.line.direction, s.line.state, s.line.settings, s.tx.flow, s.tx.progress, s.tx.breakPending, s.engine.rx)

theorem State.LineOk.of_view {s t : State} (h : s.LineOk) (view : t.lineView = s.lineView) : t.LineOk := by
  simp only [State.lineView, Prod.mk.injEq] at view
  obtain ⟨direction, state, settings, flow, progress, brk, rx⟩ := view
  have connected : t.line.connected = s.line.connected := by simp only [Line.connected, state]
  exact {
    direction := by rw [direction, state, settings]; exact h.direction
    fade := by rw [state, settings]; exact h.fade
    flow := by rw [connected, flow]; exact h.flow
    progress := by rw [connected, progress, brk]; exact h.progress
    record := by rw [rx, state, settings]; exact h.record }

section
variable (s : State)

@[simp] theorem setNow_lineView (x) : (s.setNow x).lineView = s.lineView := rfl
@[simp] theorem setChoices_lineView (x) : (s.setChoices x).lineView = s.lineView := rfl
@[simp] theorem setPins_lineView (x) : (s.setPins x).lineView = s.lineView := rfl
@[simp] theorem setKeys_lineView (x) : (s.setKeys x).lineView = s.lineView := rfl
@[simp] theorem setStore_lineView (x) : (s.setStore x).lineView = s.lineView := rfl
@[simp] theorem setRtq_lineView (x) : (s.setRtq x).lineView = s.lineView := rfl
@[simp] theorem setCrq_lineView (x) : (s.setCrq x).lineView = s.lineView := rfl
@[simp] theorem setArb_lineView (x) : (s.setArb x).lineView = s.lineView := rfl
@[simp] theorem setComp_lineView (x) : (s.setComp x).lineView = s.lineView := rfl
@[simp] theorem setHead_lineView (x) : (s.setHead x).lineView = s.lineView := rfl
@[simp] theorem setMon_lineView (x) : (s.setMon x).lineView = s.lineView := rfl
@[simp] theorem setPort_lineView (x) : (s.setPort x).lineView = s.lineView := rfl
@[simp] theorem setPending_lineView (x) : (s.setPending x).lineView = s.lineView := rfl
@[simp] theorem raise_lineView (c) : (s.raise c).lineView = s.lineView := rfl
@[simp] theorem respond_lineView (r) : (s.respond r).lineView = s.lineView := rfl
@[simp] theorem pushCrq_lineView (e) : (s.pushCrq e).lineView = s.lineView := rfl
@[simp] theorem pushTtq_lineView (cs) : (s.pushTtq cs).lineView = s.lineView := rfl
@[simp] theorem putCells_lineView (p bodies) : (s.putCells p bodies).lineView = s.lineView := rfl
@[simp] theorem removeCells_lineView (p gone rest) : (s.removeCells p gone rest).lineView = s.lineView := rfl
@[simp] theorem releaseHold_lineView : s.releaseHold.lineView = s.lineView := rfl
@[simp] theorem setTimers_lineView (x) : (s.setTimers x).lineView = s.lineView := rfl
@[simp] theorem setSlot_lineView (n x) : (s.setSlot n x).lineView = s.lineView := rfl
@[simp] theorem moveHead_lineView (x) : (s.moveHead x).lineView = s.lineView := rfl
@[simp] theorem recomputeLimit_lineView : s.recomputeLimit.lineView = s.lineView := rfl

@[simp] theorem post_lineView (n) : (s.post n).lineView = s.lineView := by
  unfold State.post; split <;> rfl

@[simp] theorem raiseIf_lineView (b c) : (s.raiseIf b c).lineView = s.lineView := by
  cases b <;> rfl

@[simp] theorem syncHolds_lineView : s.syncHolds.lineView = s.lineView := by
  unfold State.syncHolds; split <;> split <;> rfl

/-- What changes at most the CRQ, the Head Drive, the Monitor and the port is no matter of the line. -/
theorem State.Measured.lineView {a b : State} (h : a.Measured b) : b.lineView = a.lineView := by
  obtain ⟨_, _, _, _, rfl⟩ := h
  rfl

@[simp] theorem wake_lineView (c) : (s.wake c).lineView = s.lineView := by
  obtain ⟨_, _, _, h⟩ := measured_wake s c
  exact h.lineView

@[simp] theorem watchStall_lineView : s.watchStall.lineView = s.lineView := by
  unfold State.watchStall; split <;> split <;> rfl

@[simp] theorem routeDrop_lineView (r) : (s.routeDrop r).lineView = s.lineView := rfl

@[simp] theorem deliver_lineView (p r codes b) : (s.deliver p r codes b).lineView = s.lineView := by
  have mark : ∀ (t : State) (d : Bool), (t.markDrop d r).lineView = t.lineView := fun t d => by cases d <;> rfl
  simp only [State.deliver, mark, toController_eq, setCrq_lineView, toTransmit_eq, toPrint_eq]
  rfl

@[simp] theorem admissionNotice_lineView (p a) : (s.admissionNotice p a).lineView = s.lineView := by
  cases a <;> simp [State.admissionNotice]

@[simp] theorem admitSegment_lineView (p seg style codes) : (s.admitSegment p seg style codes).lineView = s.lineView := by
  simp [State.admitSegment]

@[simp] theorem cancelJob_lineView (p) : (s.cancelJob p).lineView = s.lineView := by
  unfold State.cancelJob
  split
  · rfl
  · rw [post_lineView]
    split <;> split <;> rfl

@[simp] theorem cancelKey_lineView : s.cancelKey.lineView = s.lineView := by
  unfold State.cancelKey
  split
  · rfl
  · split
    · rfl
    · exact cancelJob_lineView _ _

@[simp] theorem stallJob_lineView (p) : (s.stallJob p).lineView = s.lineView := by simp [State.stallJob]

@[simp] theorem missingLast_lineView : s.missingLast.lineView = s.lineView := by
  unfold State.missingLast
  split
  · rw [raise_lineView, post_lineView]
    split <;> rfl
  · rfl

@[simp] theorem grant_lineView (p) : (s.grant p).lineView = s.lineView := by
  unfold State.grant; split <;> rfl

@[simp] theorem finishLine_lineView : s.finishLine.lineView = s.lineView := by
  unfold State.finishLine
  split
  · rfl
  · dsimp only
    split
    · rw [post_lineView]
      split <;> rfl
    · rfl

@[simp] theorem startRow_lineView : s.startRow.lineView = s.lineView := by
  unfold State.startRow; split <;> rfl

@[simp] theorem nextRow_lineView : s.nextRow.lineView = s.lineView := by
  unfold State.nextRow
  split
  · rfl
  · split
    · exact startRow_lineView s
    · rfl

@[simp] theorem loseSlot_lineView (n) : (s.loseSlot n).lineView = s.lineView := by
  unfold State.loseSlot
  split
  · rw [post_lineView]; rfl
  · rfl

/-- The end of a connection leaves the line as it is; its transmission, its flow and its reception end (R11). -/
theorem endConnection_lineView : s.endConnection.lineView =
    (s.line.direction, s.line.state, s.line.settings, .flowing, .idle, false, .text) := by
  have slots : ∀ (l : List (Fin 4)) (t : State), (l.foldl State.loseSlot t).lineView = t.lineView := by
    intro l
    induction l with
    | nil => exact fun _ => rfl
    | cons n l ih => exact fun t => (ih _).trans (loseSlot_lineView _ _)
  rw [State.endConnection, missingLast_lineView, slots]
  rfl

@[simp] theorem answer_lineView (r o) : (s.answer r o).lineView = s.lineView := by
  unfold State.answer; split <;> rfl

@[simp] theorem abortSlot_lineView (n) : (s.abortSlot n).lineView = s.lineView := by
  unfold State.abortSlot
  split
  · rw [post_lineView, setSlot_lineView]
  · rfl
  all_goals rfl

@[simp] theorem offerPress_lineView (e) : (s.offerPress e).lineView = s.lineView := by
  unfold State.offerPress; split <;> rfl

end

/-! ## States without a connection, and states in ONLINE -/

section
variable {s : State}

/-- Where neither connection nor direction state exists and the transmitter and the engine are at rest, all agree. -/
theorem lineOk_of_rest (connected : s.line.connected = false) (direction : s.line.direction = none)
    (flow : s.tx.flow = .flowing) (progress : s.tx.progress = .idle) (brk : s.tx.breakPending = false)
    (rx : s.engine.rx = .text) : s.LineOk := by
  simp only [Line.connected, Bool.or_eq_false_iff] at connected
  exact {
    direction := by simp [direction, connected.1]
    fade := fun h => by simp [h] at connected
    flow := fun _ => flow
    progress := fun _ => ⟨progress, brk⟩
    record := fun h => absurd rx h }

theorem State.LineOk.rx_of_not_online (h : s.LineOk) (off : s.line.state ≠ .online) : s.engine.rx = .text :=
  Decidable.byContradiction fun record => off (h.record record).1

/-- The line moves between states without a connection. -/
theorem State.LineOk.setLine_unconnected (h : s.LineOk) (before : s.line.connected = false) {x : Line}
    (after : x.connected = false) (direction : x.direction = none) : (s.setLine x).LineOk := by
  have off : s.line.state ≠ .online := by
    intro online
    simp [Line.connected, online] at before
  obtain ⟨progress, brk⟩ := h.progress before
  exact lineOk_of_rest after direction (h.flow before) progress brk (h.rx_of_not_online off)

/-- In ONLINE the direction state belongs to TA1200 and a record to 8N1; nothing else is asked. -/
theorem lineOk_of_online (online : s.line.state = .online)
    (direction : s.line.direction.isSome = (s.line.settings.speed == .ta1200))
    (record : s.engine.rx ≠ .text → s.line.settings.format = .f8N1) : s.LineOk where
  direction := by simp [direction, online]
  fade := fun h => by simp [online] at h
  flow := fun h => by simp [Line.connected, online] at h
  progress := fun h => by simp [Line.connected, online] at h
  record := fun h => ⟨online, record h⟩

theorem State.LineOk.direction_none (h : s.LineOk) (off : s.line.state ≠ .online) : s.line.direction = none := by
  have direction := h.direction
  rw [beq_eq_false_iff_ne.mpr off, Bool.false_and] at direction
  simpa using direction

/-- While the connection lasts, the transmitter may be given anything to do. -/
theorem State.LineOk.setTx_connected (h : s.LineOk) (connected : s.line.connected = true) (x : Transmitter) :
    (s.setTx x).LineOk :=
  { h with flow := fun off => by simp [connected] at off, progress := fun off => by simp [connected] at off }

theorem connected_of_online (online : s.line.state = .online) : s.line.connected = true := by simp [Line.connected, online]

theorem State.LineOk.flowCompare (h : s.LineOk) : s.flowCompare.LineOk := by
  unfold State.flowCompare
  split
  · next connected => exact h.setTx_connected connected _
  · exact h

theorem State.LineOk.requestBreak (h : s.LineOk) : s.requestBreak.LineOk := by
  unfold State.requestBreak
  split
  · next connected => exact h.setTx_connected connected _
  · exact h

theorem State.LineOk.pushRtq (h : s.LineOk) (cs : List TextCell) : (s.pushRtq cs).LineOk :=
  (h.of_view (setRtq_lineView s _)).flowCompare

/-! ## The modem -/

theorem State.LineOk.takeCarrier (h : s.LineOk) : s.takeCarrier.LineOk := by
  unfold State.takeCarrier
  split
  · next cond =>
    simp only [Bool.and_eq_true, decide_eq_true_eq] at cond
    have moved : (s.setLine { s.line with state := .qualify, timers := { s.line.timers with qualify := some s.now, dropout := none } }).LineOk :=
      h.setLine_unconnected (by simp [Line.connected, cond.1]) rfl (h.direction_none (by simp [cond.1]))
    exact moved.of_view (wake_lineView _ _)
  · exact h

/-- In TA1200 ONLINE the line has any one direction state. -/
theorem State.LineOk.setDirection (h : s.LineOk) (some : s.line.direction.isSome = true) {x : Line}
    (state : x.state = s.line.state) (settings : x.settings = s.line.settings) (direction : x.direction.isSome = true) :
    (s.setLine x).LineOk := by
  have turned := h.direction
  rw [some, eq_comm, Bool.and_eq_true, beq_iff_eq, beq_iff_eq] at turned
  refine lineOk_of_online (state.trans turned.1) (by simp [direction, settings, turned.2]) fun record => ?_
  rw [setLine_line, settings]
  exact (h.record record).2

theorem State.LineOk.toListening (h : s.LineOk) (some : s.line.direction.isSome = true) : s.toListening.LineOk :=
  h.setDirection some rfl rfl rfl

theorem State.LineOk.carrierInTurn (h : s.LineOk) : s.carrierInTurn.LineOk := by
  unfold State.carrierInTurn
  split
  · exact h.of_view (setTimers_lineView _ _)
  · next taking => exact h.setDirection (by simp [taking]) rfl rfl rfl
  · next releasing => exact h.toListening (by simp [releasing])
  · exact h
  · exact h

theorem State.LineOk.carrierOn (h : s.LineOk) : s.carrierOn.LineOk := by
  unfold State.carrierOn
  split
  · exact h
  · exact h.takeCarrier
  · exact h.of_view (setTimers_lineView _ _)
  · split
    · exact h.of_view (setTimers_lineView _ _)
    · exact h.carrierInTurn
  · exact h.of_view (setTimers_lineView _ _)

theorem State.LineOk.carrierOff (h : s.LineOk) : s.carrierOff.LineOk := by
  unfold State.carrierOff
  split
  · exact h
  · exact h
  · exact h.of_view (setTimers_lineView _ _)
  · split
    · exact h.of_view (setTimers_lineView _ _)
    · split
      · exact h.of_view (setTimers_lineView _ _)
      · exact h
  · exact h.of_view (setTimers_lineView _ _)

/-- A line that has left its connection has everything at rest once the connection has ended. -/
theorem lineOk_endConnection (connected : s.line.connected = false) (direction : s.line.direction = none) :
    s.endConnection.LineOk := by
  have view := endConnection_lineView s
  simp only [State.lineView, Prod.mk.injEq] at view
  obtain ⟨direction', state, _, flow, progress, brk, rx⟩ := view
  exact lineOk_of_rest (by simpa only [Line.connected, state] using connected) (direction'.trans direction) flow progress brk rx

theorem State.LineOk.lineOn (h : s.LineOk) : s.lineOn.LineOk := by
  unfold State.lineOn
  split
  · next off =>
    exact State.LineOk.takeCarrier (h.setLine_unconnected (by simp [Line.connected, off]) rfl (h.direction_none (by simp [off])))
  · exact h

theorem State.LineOk.lineOff (h : s.LineOk) : s.lineOff.LineOk := by
  unfold State.lineOff
  split
  · exact h
  · exact (lineOk_endConnection (s := s.setLine (s.line.leave .off)) rfl rfl).of_view (post_lineView _ _)

theorem lineOk_loseLine (s : State) : s.loseLine.LineOk :=
  State.LineOk.takeCarrier <|
    (lineOk_endConnection (s := s.setLine (s.line.leave .listen)) rfl rfl).of_view (by rw [post_lineView, raise_lineView])

theorem lineOk_resetLine (s : State) : s.resetLine.LineOk :=
  (lineOk_of_rest (s := (s.setLine { s.line.leave .off with collisions := 0 }).quietLine.setTx
    { (s.setLine { s.line.leave .off with collisions := 0 }).quietLine.tx with
      ttq := [], slots := s.tx.slots.map Slot.lineReset }) rfl rfl rfl rfl rfl rfl).of_view (missingLast_lineView _)

theorem State.LineOk.enterOnline (h : s.LineOk) (qualify : s.line.state = .qualify) : s.enterOnline.LineOk := by
  have text := h.rx_of_not_online (by simp [qualify])
  have none := h.direction_none (by simp [qualify])
  refine State.LineOk.flowCompare (State.LineOk.of_view ?_ (post_lineView _ _))
  split
  · next speed => exact lineOk_of_online rfl (by simp [none, speed]) fun record => absurd text record
  · next speed => exact lineOk_of_online rfl (by simp [State.toListening, speed]) fun record => absurd text record

theorem State.LineOk.enterFade (h : s.LineOk) (online : s.line.state = .online) (speed : s.line.settings.speed = .sb300) :
    s.enterFade.LineOk := by
  have connected := connected_of_online online
  have none : s.line.direction = none := by
    have direction := h.direction
    rw [speed, show (Speed.sb300 == Speed.ta1200) = false from rfl, Bool.and_false] at direction
    simpa using direction
  refine State.LineOk.of_view ?_ (post_lineView _ _)
  exact {
    direction := by simp [none, State.dropRecord, State.clearTrim, Line.stopReception]
    fade := fun _ => speed
    flow := fun off => by simp [Line.connected] at off
    progress := fun off => by simp [Line.connected] at off
    record := fun record => absurd rfl record }

theorem State.LineOk.fadeBack (h : s.LineOk) (fade : s.line.state = .fade) : s.fadeBack.LineOk := by
  have text := h.rx_of_not_online (by simp [fade])
  have none := h.direction_none (by simp [fade])
  refine State.LineOk.of_view ?_ (post_lineView _ _)
  exact lineOk_of_online rfl (by simp [none, h.fade fade]) fun record => absurd text record

theorem isSome_of_turned {d : Direction} (turned : s.line.turned d = true) : s.line.direction.isSome = true := by
  simp only [Line.turned, Bool.and_eq_true, beq_iff_eq] at turned
  simp [turned.2]

/-! ## Reception -/

theorem State.LineOk.dropRecord (h : s.LineOk) : s.dropRecord.LineOk := { h with record := fun record => absurd rfl record }

theorem State.LineOk.abandon (h : s.LineOk) (e : RecordError) : (s.abandon e).LineOk :=
  (h.dropRecord.of_view (t := s.dropRecord.setEngine { s.dropRecord.engine with counts := s.engine.counts.count e }) rfl).of_view
    (raise_lineView _ _)

theorem State.LineOk.expireGap (h : s.LineOk) (late : Bool) : (s.expireGap late).LineOk := by
  unfold State.expireGap
  split
  · exact h.abandon _
  · exact h

theorem State.LineOk.act (h : s.LineOk) (r : Assembly) (filter : Nat) (a : RecordAction) : (s.act r filter a).LineOk := by
  cases a with
  | text => exact h.pushRtq _
  | print => exact h.of_view (admitSegment_lineView _ _ _ _ _)
  | store w => exact h.of_view (by rw [State.act, post_lineView, setStore_lineView])
  | poll => exact h
  | cancel => exact h.of_view (cancelJob_lineView _ _)
  | message => exact h.of_view (pushCrq_lineView _ _)

theorem State.LineOk.decide (h : s.LineOk) (r : Assembly) : (s.decide r).LineOk := by
  unfold State.decide
  split
  · dsimp only
    split
    · exact h.of_view (answer_lineView _ _ _)
    · split
      · exact h.of_view (answer_lineView _ _ _)
      · refine State.LineOk.of_view ?_ (answer_lineView _ _ _)
        split
        · exact (h.act _ _ _).of_view (post_lineView _ _)
        · exact h.act _ _ _
  · exact h

/-- The engine goes on in a record only where it was in one. -/
theorem State.LineOk.assemble (h : s.LineOk) (inRecord : s.engine.rx ≠ .text) (rx : RxState) (r : Assembly) :
    (s.assemble rx r).LineOk :=
  { h with record := fun _ => h.record inRecord }

theorem State.LineOk.recordCharacter (h : s.LineOk) (c : Byte) (marked : Bool) (edge : Option Nat) :
    (s.recordCharacter c marked edge).LineOk := by
  unfold State.recordCharacter
  split
  · exact h.abandon _
  split
  · exact h
  · next marker =>
    unfold State.takeMarker
    split
    · exact (h.assemble (by simp [marker]) .header s.engine.record).of_view rfl
    · exact h.abandon _
  · next header =>
    unfold State.takeHeader
    split
    · exact h.assemble (by simp [header]) _ _
    · exact h.abandon _
  · next station => exact h.assemble (by simp [station]) _ _
  · next route => exact h.assemble (by simp [route]) _ _
  · next payload => exact h.assemble (by simp [payload]) _ _
  · next check =>
    unfold State.takeCheck
    split
    · exact h.assemble (by simp [check]) _ _
    · split
      · exact h.dropRecord.decide _
      · exact h.abandon _

theorem State.LineOk.handOn (h : s.LineOk) (c : Byte) (marked : Bool) (edge : Option Nat) : (s.handOn c marked edge).LineOk := by
  unfold State.handOn
  split
  · unfold State.offerText
    split
    · exact h.pushRtq _
    · exact h.of_view (routeDrop_lineView _ _)
  · exact h.recordCharacter _ _ _

theorem State.LineOk.releaseHeld (h : s.LineOk) : s.releaseHeld.LineOk := by
  unfold State.releaseHeld
  split
  · exact State.LineOk.handOn (h.of_view (t := s.setLine { s.line with held := false }) rfl) _ _ _
  · exact h

theorem State.LineOk.endBreak (h : s.LineOk) : s.endBreak.LineOk := by
  unfold State.endBreak
  split <;> exact h.of_view rfl

theorem State.LineOk.receive (h : s.LineOk) (data : Byte) (parity stop : Bool) (edge : Option Nat) :
    (s.receive data parity stop edge).LineOk := by
  have ended : (if s.line.inBreak then s.endBreak else s).LineOk := by
    split
    · exact h.endBreak
    · exact h
  unfold State.receive
  extract_lets s0 s1 s2 f
  split
  · exact (ended.releaseHeld.expireGap _).of_view rfl
  · exact (ended.releaseHeld.expireGap _).handOn _ _ _

/-- What a late gap timer does leaves the line its state and its settings. -/
theorem expireGap_line (late : Bool) : (s.expireGap late).line.state = s.line.state
    ∧ (s.expireGap late).line.settings = s.line.settings := by
  cases late <;> exact ⟨rfl, rfl⟩

theorem State.LineOk.takeBreak (h : s.LineOk) (online : s.line.state = .online) : s.takeBreak.LineOk := by
  have broken : ((s.expireGap s.gapBeforeBreak).setLine
      { (s.expireGap s.gapBeforeBreak).line with held := false, inBreak := true }).LineOk := (h.expireGap s.gapBeforeBreak).of_view rfl
  obtain ⟨state, settings⟩ := expireGap_line (s := s) s.gapBeforeBreak
  unfold State.takeBreak
  split
  · next format => exact { broken.dropRecord with
      record := fun _ => ⟨state.trans online, (congrArg LineSettings.format settings).trans format⟩ }
  · exact broken.of_view (post_lineView _ _)
  · exact broken.of_view (post_lineView _ _)

theorem online_of_receiving (receiving : s.line.receiving = true) : s.line.state = .online := by
  simp only [Line.receiving, Bool.and_eq_true, beq_iff_eq] at receiving
  exact receiving.1

/-! ## The transmitter -/

theorem State.LineOk.recordSent (h : s.LineOk) (src : TxSource) : (s.recordSent src).LineOk := by
  cases src with
  | reply => exact h
  | slot n => exact h.of_view (by rw [State.recordSent, post_lineView]; rfl)

/-- An item on the line means that the connection exists. -/
theorem State.LineOk.connected_of_progress (h : s.LineOk) (busy : s.tx.progress ≠ .idle) : s.line.connected = true :=
  Bool.not_eq_false _ ▸ fun off => busy (h.progress off).1

theorem State.LineOk.endItem (h : s.LineOk) : s.endItem.LineOk := by
  unfold State.endItem
  split
  · exact h
  · next progress =>
    have connected := h.connected_of_progress (by simp [progress])
    split
    · exact (h.setTx_connected connected _).flowCompare
    · exact h.setTx_connected connected _
  · next progress => exact h.setTx_connected (h.connected_of_progress (by simp [progress])) _
  · exact h
  · next progress =>
    have connected := h.connected_of_progress (by simp [progress])
    split
    · exact h.setTx_connected connected _
    · exact State.LineOk.recordSent (h.setTx_connected connected _) _

theorem State.LineOk.begin (h : s.LineOk) (online : s.line.state = .online) (src : Source) : (s.begin src).LineOk := by
  have connected := connected_of_online online
  cases src with
  | flow => exact h.setTx_connected connected _
  | brk => exact h.setTx_connected connected _
  | reply =>
    simp only [State.begin]
    split
    · exact State.LineOk.setTx_connected (h.of_view (t := s.setEngine { s.engine with reply := none }) rfl) connected _
    · exact h
  | slot => exact h.setTx_connected connected _
  | text =>
    simp only [State.begin]
    split
    · exact h.setTx_connected connected _
    · exact h

/-- The transmitter acts of itself in ONLINE only, and turns the line in TA1200 only. -/
theorem txAct_some {a : TxAct} (act : s.txAct = some a) :
    s.line.state = .online ∧ (a = .take ∨ a = .release → s.line.direction.isSome = true) := by
  unfold State.txAct at act
  split at act
  · next online =>
    refine ⟨online, ?_⟩
    split at act
    · next turned =>
      simp only [Bool.and_eq_true, decide_eq_true_eq] at turned
      simp [turned.2]
    split at act
    · next turned =>
      simp only [Bool.and_eq_true, decide_eq_true_eq] at turned
      simp [turned.1.1.2]
    rintro (rfl | rfl)
    all_goals
      split at act
      · split at act
        · cases act
        · split at act <;> simp at act
      · cases act
  · cases act

theorem State.LineOk.doTx (h : s.LineOk) {a : TxAct} (act : s.txAct = some a) : (s.doTx a).LineOk := by
  obtain ⟨online, turned⟩ := txAct_some act
  cases a with
  | take => exact h.setDirection (turned (.inl rfl)) rfl rfl rfl
  | release =>
    show s.enterReleasing.LineOk
    unfold State.enterReleasing
    split
    · exact h.toListening (turned (.inr rfl))
    · exact h.setDirection (turned (.inr rfl)) rfl rfl rfl
  | resume =>
    show s.resumeRecord.LineOk
    unfold State.resumeRecord
    split
    · exact h.setTx_connected (connected_of_online online) _
    · exact h
  | choose src => exact h.begin online src

/-! ## The keyboard -/

theorem State.LineOk.immediate (h : s.LineOk) (a : LocalAction) : (s.immediate a).LineOk := by
  cases a with
  | sendBreak => exact h.requestBreak
  | cancelPrint => exact h.of_view (cancelKey_lineView _)
  | feedLine | tearFeed | toggleEcho | attention => exact h

theorem State.LineOk.setKeys (h : s.LineOk) (k : Keyboard) : (s.setKeys k).LineOk := h.of_view rfl

theorem State.LineOk.admitPress (h : s.LineOk) (key : Fin 96) : (s.admitPress key).LineOk := by
  have woken : (s.wake .keyPress).LineOk := h.of_view (wake_lineView _ _)
  unfold State.admitPress
  extract_lets t
  split
  · exact woken.setKeys _
  · split
    · exact (woken.setKeys _).immediate _
    · exact (woken.setKeys _).immediate _
    · exact (woken.setKeys _).of_view (offerPress_lineView _ _)

theorem State.LineOk.scanMatrix (h : s.LineOk) (closed : BitVec 96) : (s.scanMatrix closed).LineOk := by
  have presses : ∀ (l : List (Fin 96)) (t : State), t.LineOk → (l.foldl (State.pressStep closed) t).LineOk := by
    intro l
    induction l with
    | nil => exact fun _ k => k
    | cons key l ih =>
      refine fun t k => ih _ ?_
      unfold State.pressStep
      split
      · exact k.admitPress key
      · exact k
  exact presses _ _ (h.setKeys _)

theorem State.LineOk.actOn (h : s.LineOk) (e : KeyEvent) : (s.actOn e).LineOk := by
  unfold State.actOn
  split
  · exact h.of_view (deliver_lineView _ _ _ _ _)
  · split
    · exact h
    · exact h.of_view (deliver_lineView _ _ _ _ _)
  · exact h.of_view rfl
  · exact h.of_view rfl
  · exact h.of_view rfl
  · exact h.of_view (post_lineView _ _)
  · exact h.immediate _
  · exact h.immediate _
  · exact h.of_view rfl
  · exact h
  · exact h

theorem State.LineOk.dispatch (h : s.LineOk) : s.dispatch.LineOk := by
  unfold State.dispatch
  split
  · exact h
  · exact (h.setKeys _).actOn _

/-! ## The end of an event -/

theorem State.LineOk.routeHead (h : s.LineOk) : s.routeHead.LineOk := by
  unfold State.routeHead
  split
  · exact h
  · exact (h.of_view (by rw [deliver_lineView, setRtq_lineView])).flowCompare

theorem State.LineOk.spend (h : s.LineOk) (b : Bool) : (s.spend b).LineOk := by
  cases b with
  | true => exact h.of_view rfl
  | false => exact h

theorem nextAction_transmit {a : TxAct} (next : s.nextAction = some (.transmit a)) : s.txAct = some a := by
  unfold State.nextAction at next
  split at next
  · cases next; assumption
  · split at next
    · cases next
    split at next
    · cases next
    split at next
    · cases next
    split at next
    · cases next
    unfold State.deliveryAction at next
    split at next
    · split at next
      · split at next <;> cases next
      · cases next
    · split at next <;> cases next

theorem State.LineOk.perform (h : s.LineOk) {a : Action} (next : s.nextAction = some a) : (s.perform a).LineOk := by
  cases a with
  | transmit a => exact h.doTx (nextAction_transmit next)
  | startRow => exact h.of_view (startRow_lineView _)
  | append => exact h.of_view rfl
  | finish => exact h.of_view (finishLine_lineView _)
  | grant p => exact h.of_view (grant_lineView _ _)
  | route b => exact (h.spend b).routeHead
  | dispatch b => exact (h.spend b).dispatch

theorem State.LineOk.settle (h : s.LineOk) (fuel : Nat) : (State.settle fuel s).LineOk := by
  induction fuel generalizing s with
  | zero => exact h
  | succ fuel ih =>
    unfold State.settle
    split
    · exact h
    · next next => exact ih ((h.perform next).of_view (watchStall_lineView _))

theorem State.LineOk.finishEvent (h : s.LineOk) : s.finishEvent.LineOk :=
  (h.of_view (watchStall_lineView _)).settle _

/-! ## The Head Drive and the Monitor -/

@[simp] theorem endPhase_lineView (s : State) : s.endPhase.lineView = s.lineView := by
  unfold State.endPhase
  split
  · rfl
  split
  · rfl
  · split
    · exact nextRow_lineView _
    · rfl

@[simp] theorem compareStall_lineView (s : State) : s.compareStall.lineView = s.lineView := by
  unfold State.compareStall
  split
  · split
    · exact stallJob_lineView _ _
    · rfl
  · rfl

theorem configPrint_lineView (s : State) (x : PrintSettings) : (s.configPrint x).lineView = s.lineView := by
  rw [State.configPrint, (measured_compareThermal _).lineView, recomputeLimit_lineView, compareStall_lineView,
    watchStall_lineView]
  rfl

theorem resetHead_lineView (s : State) : s.resetHead.lineView = s.lineView := by
  unfold State.resetHead; split <;> rfl

theorem clearCauses_lineView (s : State) (x : BitVec 10) : (s.clearCauses x).lineView = s.lineView := by
  rw [clearCauses_eq]
  simp only [State.lineView]
  split <;> rfl

theorem State.LineOk.resetUnit (h : s.LineOk) (x : ResetScope) : (s.resetUnit x).LineOk := by
  cases x with
  | line => exact lineOk_resetLine s
  | keyboard => exact h.setKeys _
  | print => exact h.of_view (resetHead_lineView _)
  | all =>
    refine (lineOk_resetLine s).of_view ?_
    rw [State.resetUnit, clearCauses_lineView, setCrq_lineView, setRtq_lineView]
    exact resetHead_lineView _

end

/-! ## Every step -/

theorem State.LineOk.field {α : Type} {x : Option α} {body : α → State → State × Response}
    (keeps : ∀ a, ∀ t : State, t.LineOk → (body a t).1.LineOk) : ∀ t : State, t.LineOk → (Machine.field x body t).1.LineOk := by
  intro t h
  unfold Machine.field
  split
  · exact keeps _ t h
  · exact h

theorem lineOk_portBody {c : Instr} {n : Nat} {p : List Byte} {body : State → State × Response}
    (command : portBody c = some (n, p, body)) : ∀ t : State, t.LineOk → (body t).1.LineOk := by
  cases c <;> cases command
  case configLine =>
    intro t h
    unfold configLineBody
    split
    · next off =>
      unfold Machine.field
      split
      · exact h.setLine_unconnected (by simp [Line.connected, off]) (by simp [Line.connected, off]) (h.direction_none (by simp [off]))
      · exact h
    · exact h
  case lineOn => exact fun t h => h.lineOn
  case lineOff => exact fun t h => h.lineOff
  case setFilter =>
    refine State.LineOk.field fun n t h => ?_
    split
    · exact State.LineOk.field (fun _ _ k => k.of_view rfl) t h
    · exact h
  case setMask =>
    refine State.LineOk.field fun n t h => ?_
    split
    · exact State.LineOk.field (fun _ _ k => k.of_view rfl) t h
    · exact h
  case setDefaultAction => exact State.LineOk.field fun _ _ h => h.of_view rfl
  case configFlow => exact State.LineOk.field fun x t h =>
      (h.of_view (t := t.setTx { t.tx with flowSettings := x }) rfl).flowCompare
  case loadSlot =>
    refine State.LineOk.field fun n t h => ?_
    split
    · exact State.LineOk.field (fun _ _ k => k.of_view rfl) t h
    · exact h
  case requestSlot =>
    refine State.LineOk.field fun n t h => ?_
    split
    · exact h.of_view rfl
    · exact h
  case abortSlot => exact State.LineOk.field fun _ _ h => h.of_view (abortSlot_lineView _ _)
  case sendText =>
    intro t h
    unfold sendTextBody
    split
    · exact h.of_view rfl
    · exact h
  case sendBreak => exact fun t h => h.requestBreak
  case writeStore =>
    intro t h
    unfold writeStoreBody
    split
    · exact h
    · exact h
    · split
      · exact h.of_view rfl
      · exact h
  case readStore => exact fun t h => State.LineOk.field (fun _ _ k => k) t h
  case setRemoteMask => exact State.LineOk.field fun _ _ h => h.of_view rfl
  case configKeyboard => exact State.LineOk.field fun _ _ h => h.setKeys _
  case writeKeymap =>
    exact State.LineOk.field fun _ => State.LineOk.field fun _ => State.LineOk.field fun _ _ h => h.setKeys _
  case readKeymap => exact State.LineOk.field fun _ => State.LineOk.field fun _ _ h => h
  case print =>
    refine State.LineOk.field fun x t h => ?_
    split
    · exact h.of_view (admitSegment_lineView _ _ _ _ _)
    · exact h
  case cancelJob => exact State.LineOk.field fun _ _ h => h.of_view (cancelJob_lineView _ _)
  case pausePrint => exact fun t h => h.of_view rfl
  case resumePrint => exact fun t h => h.of_view rfl
  case configPrint => exact State.LineOk.field fun _ _ h => h.of_view (configPrint_lineView _ _)
  case readQueue => exact fun t h => h.of_view rfl
  case readStatus => exact fun t h => h
  case clearCauses => exact State.LineOk.field fun _ _ h => h.of_view (clearCauses_lineView _ _)
  case setAttnMask => exact State.LineOk.field fun _ _ h => h.of_view rfl
  case resetUnit => exact State.LineOk.field fun _ _ h => h.resetUnit _
  case doze =>
    intro t h
    unfold dozeBody
    split
    · exact h.of_view rfl
    · exact h

theorem lineOk_effect {s a : State} (h : s.LineOk) (effect : s.Effect a) : a.LineOk := by
  cases effect with
  | clock => exact h
  | wake => exact h.of_view (wake_lineView _ _)
  | carrierOn => exact State.LineOk.carrierOn (h.of_view rfl)
  | carrierOff => exact State.LineOk.carrierOff (h.of_view rfl)
  | enterOnline qualify => exact h.enterOnline qualify
  | backToListen qualify =>
    exact h.setLine_unconnected (by simp [Line.connected, qualify]) rfl (h.direction_none (by simp [qualify]))
  | enterFade online speed => exact h.enterFade online speed
  | fadeBack fade => exact h.fadeBack fade
  | loseLine => exact lineOk_loseLine s
  | enterTalking taking => exact h.setDirection (isSome_of_turned taking) rfl rfl rfl
  | toListening releasing => exact h.toListening (isSome_of_turned releasing)
  | receive => exact h.receive _ _ _ _
  | takeBreak receiving => exact h.takeBreak (online_of_receiving receiving)
  | releaseHeld => exact h.releaseHeld
  | endBreak => exact h.endBreak
  | abandonGap => exact h.abandon _
  | endItem => exact h.endItem
  | scan => exact h.scanMatrix _
  | repeatNow =>
    unfold State.repeatNow State.repeatExpiry
    split
    · dsimp only
      split <;> exact h.setKeys _
    · exact h
  | stallHolder =>
    unfold State.stallHolder
    split
    · exact h.of_view (stallJob_lineView _ _)
    · exact h
  | endPhase => exact h.of_view (endPhase_lineView _)
  | endRow => exact h.of_view (nextRow_lineView _)
  | endSettle => exact h.of_view (nextRow_lineView _)
  | inputChange => exact h.of_view rfl
  | inputStable => exact h.of_view (by rw [State.inputStable, syncHolds_lineView, raiseIf_lineView, setMon_lineView])
  | supplySample => exact h.of_view ((measured_sampleSupply _).lineView)
  | thermistorReading => exact h.of_view ((measured_readThermistor _).lineView)

/-- Settles O59: what a step can do (`step_establishes`), each part of which keeps the agreement. -/
theorem stepKeepsLineStates : Obligations.StepKeepsLineStates := by
  intro s t lineOk run
  exact step_establishes (P := State.LineOk) (Q := State.LineOk)
    (frame := fun _ _ _ h => h.of_view rfl) (now := fun _ _ h => h.of_view rfl) (wake := fun _ h => h.of_view (wake_lineView _ _))
    (stays := fun _ h => h) (power := fun _ _ _ _ _ _ => lineOk_of_rest rfl rfl rfl rfl rfl rfl)
    (respond := fun _ _ h => h.of_view rfl) (finish := fun _ h => h.finishEvent)
    (body := fun _ _ _ _ command => lineOk_portBody command) (effect := fun _ _ => lineOk_effect) lineOk run

end Sys2Proof.Machine
end

section
/-!
SUPPORT. Which operations give no paper step, and so when the Head Drive may have given one: at the start of a row, which no print hold allows (R142, R151, R154).
-/

namespace Sys2Proof.Machine

/-! ## Operations that give no paper step -/

section
variable (s : State)

@[simp] theorem flowCompare_head : s.flowCompare.head = s.head := by rw [flowCompare_eq]; rfl
@[simp] theorem pushRtq_head (cs) : (s.pushRtq cs).head = s.head := by rw [State.pushRtq, flowCompare_head, setRtq_head]

@[simp] theorem requestBreak_head : s.requestBreak.head = s.head := by
  unfold State.requestBreak; split <;> rfl

@[simp] theorem deliver_head (p r codes b) : (s.deliver p r codes b).head = s.head := by
  have mark : ∀ (t : State) (d : Bool), (t.markDrop d r).head = t.head := fun t d => by cases d <;> rfl
  simp only [State.deliver, mark, toController_eq, toTransmit_eq, toPrint_eq]
  rfl

@[simp] theorem admissionNotice_head (p a) : (s.admissionNotice p a).head = s.head := by
  cases a <;> simp [State.admissionNotice]

@[simp] theorem admitSegment_head (p seg style codes) : (s.admitSegment p seg style codes).head = s.head := by
  simp [State.admitSegment, State.putCells]

@[simp] theorem cancelJob_head (p) : (s.cancelJob p).head = s.head := by
  unfold State.cancelJob
  split
  · rfl
  · rw [post_head]
    split <;> split <;> rfl

@[simp] theorem cancelKey_head : s.cancelKey.head = s.head := by
  unfold State.cancelKey
  split
  · rfl
  · split
    · rfl
    · exact cancelJob_head _ _

@[simp] theorem missingLast_head : s.missingLast.head = s.head := by
  unfold State.missingLast
  split
  · rw [raise_head, post_head]
    split <;> rfl
  · rfl

@[simp] theorem endConnection_head : s.endConnection.head = s.head := by
  have lose : ∀ (t : State) (n : Fin 4), (t.loseSlot n).head = t.head := by
    intro t n
    unfold State.loseSlot
    split
    · rw [post_head]; rfl
    · rfl
  have slots : ∀ (l : List (Fin 4)) (t : State), (l.foldl State.loseSlot t).head = t.head := by
    intro l
    induction l with
    | nil => exact fun _ => rfl
    | cons n l ih => exact fun t => (ih _).trans (lose _ _)
  rw [State.endConnection, missingLast_head, slots]
  rfl

@[simp] theorem answer_head (r o) : (s.answer r o).head = s.head := by rw [answer_eq]; rfl

@[simp] theorem act_head (r filter a) : (s.act r filter a).head = s.head := by
  cases a <;> simp [State.act, State.pushCrq]

@[simp] theorem decide_head (r) : (s.decide r).head = s.head := by
  unfold State.decide
  split
  · dsimp only
    split
    · exact answer_head _ _ _
    · split
      · exact answer_head _ _ _
      · rw [answer_head]
        split
        · rw [post_head, act_head]
        · exact act_head _ _ _ _
  · rfl

@[simp] theorem abandon_head (e) : (s.abandon e).head = s.head := rfl

@[simp] theorem recordCharacter_head (c marked edge) : (s.recordCharacter c marked edge).head = s.head := by
  unfold State.recordCharacter
  split
  · rfl
  split
  · rfl
  · unfold State.takeMarker; split <;> rfl
  · unfold State.takeHeader; split <;> rfl
  · rfl
  · rfl
  · rfl
  · unfold State.takeCheck
    split
    · rfl
    · split
      · exact decide_head _ _
      · rfl

@[simp] theorem handOn_head (c marked edge) : (s.handOn c marked edge).head = s.head := by
  unfold State.handOn
  split
  · unfold State.offerText
    split
    · exact pushRtq_head _ _
    · rfl
  · exact recordCharacter_head _ _ _ _

@[simp] theorem releaseHeld_head : s.releaseHeld.head = s.head := by
  unfold State.releaseHeld
  split
  · exact handOn_head _ _ _ _
  · rfl

@[simp] theorem endBreak_head : s.endBreak.head = s.head := by
  unfold State.endBreak; split <;> rfl

@[simp] theorem expireGap_head (late) : (s.expireGap late).head = s.head := by
  cases late <;> rfl

@[simp] theorem receive_head (data parity stop edge) : (s.receive data parity stop edge).head = s.head := by
  have ended : (if s.line.inBreak then s.endBreak else s).head = s.head := by
    split
    · exact endBreak_head s
    · rfl
  unfold State.receive
  extract_lets s0 s1 s2 f
  have late : s2.head = s.head := (expireGap_head _ _).trans ((releaseHeld_head _).trans ended)
  split
  · exact late
  · rw [handOn_head, late]

@[simp] theorem takeBreak_head : s.takeBreak.head = s.head := by
  unfold State.takeBreak
  split
  · exact expireGap_head _ _
  · rw [post_head]; exact expireGap_head _ _
  · rw [post_head]; exact expireGap_head _ _

@[simp] theorem abortSlot_head (n) : (s.abortSlot n).head = s.head := by
  unfold State.abortSlot
  split
  · rw [post_head]; rfl
  · rfl
  all_goals rfl

@[simp] theorem endItem_head : s.endItem.head = s.head := by
  have sent : ∀ (t : State) (src : TxSource), (t.recordSent src).head = t.head := by
    intro t src
    cases src with
    | reply => rfl
    | slot n => rw [State.recordSent, post_head]; rfl
  unfold State.endItem
  split
  · rfl
  · split
    · rw [flowCompare_head]; rfl
    · rfl
  · rfl
  · rfl
  · split
    · rfl
    · rw [sent]; rfl

@[simp] theorem clearCauses_head (x) : (s.clearCauses x).head = s.head := by rw [clearCauses_eq]; rfl

@[simp] theorem doTx_head (a) : (s.doTx a).head = s.head := by
  cases a with
  | take => rfl
  | release =>
    show s.enterReleasing.head = s.head
    unfold State.enterReleasing
    split <;> rfl
  | resume =>
    show s.resumeRecord.head = s.head
    unfold State.resumeRecord
    split <;> rfl
  | choose src =>
    cases src with
    | flow | brk | slot => rfl
    | reply => simp only [State.doTx, State.begin]; split <;> rfl
    | text => simp only [State.doTx, State.begin]; split <;> rfl

@[simp] theorem immediate_head (a) : (s.immediate a).head = s.head := by
  cases a <;> simp [State.immediate]

@[simp] theorem actOn_head (e) : (s.actOn e).head = s.head := by
  unfold State.actOn
  split
  · exact deliver_head _ _ _ _ _
  · split
    · rfl
    · exact deliver_head _ _ _ _ _
  · rfl
  · rfl
  · rfl
  · exact post_head _ _
  · exact immediate_head _ _
  · exact immediate_head _ _
  · rfl
  · rfl
  · rfl

@[simp] theorem dispatch_head : s.dispatch.head = s.head := by
  unfold State.dispatch
  split
  · rfl
  · exact actOn_head _ _

@[simp] theorem routeHead_head : s.routeHead.head = s.head := by
  unfold State.routeHead
  split
  · rfl
  · rw [flowCompare_head, deliver_head, setRtq_head]

@[simp] theorem spend_head (b) : (s.spend b).head = s.head := by cases b <;> rfl

/-! The Monitor moves the Head Drive's state, never its counter of steps. -/

@[simp] theorem moveHead_steps (x) : (s.moveHead x).head.steps = s.head.steps := rfl
@[simp] theorem recomputeLimit_steps : s.recomputeLimit.head.steps = s.head.steps := rfl

@[simp] theorem syncHolds_steps : s.syncHolds.head.steps = s.head.steps := by
  obtain ⟨_, _, h⟩ := syncHolds_head (s := s) rfl
  rw [h]

@[simp] theorem sampleSupply_steps : s.sampleSupply.head.steps = s.head.steps := by
  simp [State.sampleSupply]

@[simp] theorem compareThermal_steps : s.compareThermal.head.steps = s.head.steps := by
  obtain ⟨_, _, h⟩ := compareThermal_head s
  rw [h]

@[simp] theorem readThermistor_steps : s.readThermistor.head.steps = s.head.steps := by
  unfold State.readThermistor
  dsimp only
  split
  · split
    · rw [recomputeLimit_steps, compareThermal_steps, setMon_head]
    · rw [compareThermal_steps, setMon_head]
  · split <;> rfl

@[simp] theorem wake_steps (c) : (s.wake c).head.steps = s.head.steps := by
  unfold State.wake
  split
  · rfl
  · simp [State.measureInputs]

@[simp] theorem takeCarrier_steps : s.takeCarrier.head.steps = s.head.steps := by
  unfold State.takeCarrier
  split
  · rw [wake_steps, setLine_head]
  · rfl

@[simp] theorem carrierOn_steps : s.carrierOn.head.steps = s.head.steps := by
  unfold State.carrierOn
  split
  · rfl
  · exact takeCarrier_steps s
  · rfl
  · split
    · rfl
    · unfold State.carrierInTurn
      split <;> rfl
  · rfl

@[simp] theorem carrierOff_steps : s.carrierOff.head.steps = s.head.steps := by
  unfold State.carrierOff
  split
  · rfl
  · rfl
  · rfl
  · split
    · rfl
    · split <;> rfl
  · rfl

@[simp] theorem offerPress_head (e) : (s.offerPress e).head = s.head := by
  unfold State.offerPress; split <;> rfl

@[simp] theorem admitPress_steps (key) : (s.admitPress key).head.steps = s.head.steps := by
  unfold State.admitPress
  extract_lets t
  have woken : t.head.steps = s.head.steps := wake_steps s _
  split
  · exact woken
  · split
    · rw [immediate_head]; exact woken
    · rw [immediate_head]; exact woken
    · rw [offerPress_head]; exact woken

@[simp] theorem scanMatrix_steps (closed) : (s.scanMatrix closed).head.steps = s.head.steps := by
  have presses : ∀ (l : List (Fin 96)) (t : State), (l.foldl (State.pressStep closed) t).head.steps = t.head.steps := by
    intro l
    induction l with
    | nil => exact fun _ => rfl
    | cons key l ih =>
      refine fun t => (ih _).trans ?_
      unfold State.pressStep
      split
      · exact admitPress_steps _ _
      · rfl
  exact presses _ _

@[simp] theorem lineOn_steps : s.lineOn.head.steps = s.head.steps := by
  unfold State.lineOn
  split
  · rw [takeCarrier_steps, setLine_head]
  · rfl

@[simp] theorem lineOff_head : s.lineOff.head = s.head := by
  unfold State.lineOff
  split
  · rfl
  · rw [State.postLineState, post_head, endConnection_head, setLine_head]

@[simp] theorem configPrint_steps (x) : (s.configPrint x).head.steps = s.head.steps := by
  rw [State.configPrint, compareThermal_steps, recomputeLimit_steps, compareStall_head, watchStall_head]
  rfl

@[simp] theorem resetLine_head : s.resetLine.head = s.head := missingLast_head _

@[simp] theorem resetHead_steps : s.resetHead.head.steps = s.head.steps := by
  unfold State.resetHead; split <;> rfl

@[simp] theorem resetUnit_steps (x) : (s.resetUnit x).head.steps = s.head.steps := by
  cases x with
  | line => rw [State.resetUnit, resetLine_head]
  | keyboard => rfl
  | print => exact resetHead_steps _
  | all =>
    rw [State.resetUnit, clearCauses_head, setCrq_head, setRtq_head]
    exact (resetHead_steps _).trans (congrArg Head.steps (resetLine_head s))

end

/-! ## When a paper step is given -/

/-- Paper steps past `n` have been given only where no print hold is in force. -/
def State.StepsFree (n : Nat) (s : State) : Prop := n < s.head.steps → s.mon.anyHold = false

section
variable {n : Nat} {s : State}

theorem stepsFree_of_le (h : s.head.steps ≤ n) : s.StepsFree n := fun past => absurd past (Nat.not_lt.mpr h)

theorem stepsFree_of_noHold (h : s.mon.anyHold = false) : s.StepsFree n := fun _ => h

/-- What gives no step and leaves the holds in force as they are keeps this. -/
theorem State.StepsFree.of_same (h : s.StepsFree n) {t : State} (steps : t.head.steps = s.head.steps)
    (hold : t.mon.anyHold = s.mon.anyHold) : t.StepsFree n := fun past => hold.trans (h (steps ▸ past))

/-- The follow-ups of an event keep the holds in force. -/
theorem State.Kept.anyHold {a b : State} (kept : a.Kept b) : b.mon.anyHold = a.mon.anyHold := by
  rw [← kept.monitor]
  rfl

theorem mayStart_of_nextAction (next : s.nextAction = some .startRow) : s.mayStart = true := by
  unfold State.nextAction at next
  split at next
  · cases next
  split at next
  · assumption
  split at next
  · cases next
  split at next
  · cases next
  split at next
  · cases next
  unfold State.deliveryAction at next
  split at next
  · split at next
    · split at next <;> cases next
    · cases next
  · split at next <;> cases next

theorem State.StepsFree.perform (h : s.StepsFree n) {a : Action} (next : s.nextAction = some a) : (s.perform a).StepsFree n := by
  have hold := (kept_perform s a).anyHold
  cases a with
  | startRow =>
    have free := mayStart_of_nextAction next
    simp only [State.mayStart, Bool.and_eq_true, Bool.not_eq_true'] at free
    exact stepsFree_of_noHold (hold.trans free.1.2)
  | transmit a => exact h.of_same (congrArg Head.steps (doTx_head s a)) hold
  | append => exact h
  | finish => exact h.of_same (congrArg Head.steps (finishLine_head s)) hold
  | grant p => exact h.of_same (congrArg Head.steps (grant_head s p)) hold
  | route b => exact h.of_same (by rw [State.perform, routeHead_head, spend_head]) hold
  | dispatch b => exact h.of_same (by rw [State.perform, dispatch_head, spend_head]) hold

theorem State.StepsFree.watchStall (h : s.StepsFree n) : s.watchStall.StepsFree n :=
  h.of_same (by rw [watchStall_head]) (by rw [watchStall_mon])

theorem State.StepsFree.settle (h : s.StepsFree n) (fuel : Nat) : (State.settle fuel s).StepsFree n := by
  induction fuel generalizing s with
  | zero => exact h
  | succ fuel ih =>
    unfold State.settle
    split
    · exact h
    · next next => exact ih (h.perform next).watchStall

theorem State.StepsFree.finishEvent (h : s.StepsFree n) : s.finishEvent.StepsFree n := h.watchStall.settle _

/-- At the end of a row, or of the settle time, a row starts only without a print hold. -/
theorem stepsFree_nextRow (h : s.head.steps ≤ n) : s.nextRow.StepsFree n := by
  unfold State.nextRow
  split
  · exact stepsFree_of_le h
  · next noHold =>
    split
    · exact stepsFree_of_noHold ((kept_startRow s).anyHold.trans (by simpa using noHold))
    · exact stepsFree_of_le h

theorem rowEnded_steps (h : Head) (now : Nat) : (h.rowEnded now).steps = h.steps := by
  unfold Head.rowEnded
  split
  · rfl
  · split <;> rfl

theorem stepsFree_endRow (h : s.head.steps ≤ n) : s.endRow.StepsFree n :=
  stepsFree_nextRow (by rw [setHead_head, rowEnded_steps]; exact h)

end

/-! ## Every step -/

theorem steps_field {α : Type} {x : Option α} {body : α → State → State × Response}
    (same : ∀ a, ∀ t : State, (body a t).1.head.steps = t.head.steps) (t : State) :
    (field x body t).1.head.steps = t.head.steps := by
  unfold field
  split
  · exact same _ t
  · rfl

/-- No body of a controller command gives a paper step. -/
theorem steps_portBody {c : Instr} {n : Nat} {p : List Byte} {body : State → State × Response}
    (command : portBody c = some (n, p, body)) : ∀ t : State, (body t).1.head.steps = t.head.steps := by
  cases c <;> cases command
  case configLine =>
    intro t
    unfold configLineBody
    split
    · exact steps_field (fun _ _ => rfl) t
    · rfl
  case lineOn => exact lineOn_steps
  case lineOff => exact fun t => congrArg Head.steps (lineOff_head t)
  case setFilter =>
    refine steps_field fun n t => ?_
    split
    · exact steps_field (fun _ _ => rfl) t
    · rfl
  case setMask =>
    refine steps_field fun n t => ?_
    split
    · exact steps_field (fun _ _ => rfl) t
    · rfl
  case setDefaultAction => exact steps_field fun _ _ => rfl
  case configFlow => exact steps_field fun x t => congrArg Head.steps (flowCompare_head _)
  case loadSlot =>
    refine steps_field fun n t => ?_
    split
    · exact steps_field (fun _ _ => rfl) t
    · rfl
  case requestSlot =>
    refine steps_field fun n t => ?_
    split <;> rfl
  case abortSlot => exact steps_field fun n t => congrArg Head.steps (abortSlot_head t n)
  case sendText =>
    intro t
    unfold sendTextBody
    split <;> rfl
  case sendBreak => exact fun t => congrArg Head.steps (requestBreak_head t)
  case writeStore =>
    intro t
    unfold writeStoreBody
    split
    · rfl
    · rfl
    · split <;> rfl
  case readStore => exact fun t => steps_field (fun _ _ => rfl) t
  case setRemoteMask => exact steps_field fun _ _ => rfl
  case configKeyboard => exact steps_field fun _ _ => rfl
  case writeKeymap => exact steps_field fun _ => steps_field fun _ => steps_field fun _ _ => rfl
  case readKeymap => exact steps_field fun _ => steps_field fun _ _ => rfl
  case print =>
    refine steps_field fun x t => ?_
    split
    · exact congrArg Head.steps (admitSegment_head t _ _ _ _)
    · rfl
  case cancelJob => exact steps_field fun p t => congrArg Head.steps (cancelJob_head t p)
  case pausePrint => exact fun _ => rfl
  case resumePrint => exact fun _ => rfl
  case configPrint => exact steps_field fun x t => configPrint_steps t x
  case readQueue => exact fun _ => rfl
  case readStatus => exact fun _ => rfl
  case clearCauses => exact steps_field fun x t => congrArg Head.steps (clearCauses_head t x)
  case setAttnMask => exact steps_field fun _ _ => rfl
  case resetUnit => exact steps_field fun x t => resetUnit_steps t x
  case doze =>
    intro t
    unfold dozeBody
    split <;> rfl

theorem stepsFree_effect {n : Nat} {s a : State} (h : s.head.steps ≤ n) (effect : s.Effect a) : a.StepsFree n := by
  cases effect with
  | endPhase =>
    unfold State.endPhase
    split
    · exact stepsFree_of_le h
    split
    · exact stepsFree_of_le h
    · split
      · exact stepsFree_endRow h
      · exact stepsFree_of_le h
  | endRow => exact stepsFree_endRow h
  | endSettle => exact stepsFree_nextRow (by exact h)
  | clock => exact stepsFree_of_le h
  | wake => exact stepsFree_of_le (by rwa [wake_steps])
  | carrierOn => exact stepsFree_of_le (by rwa [carrierOn_steps])
  | carrierOff => exact stepsFree_of_le (by rwa [carrierOff_steps])
  | enterOnline =>
    refine stepsFree_of_le ?_
    rw [State.enterOnline, flowCompare_head, State.postLineState, post_head]
    split <;> exact h
  | backToListen => exact stepsFree_of_le h
  | enterFade => exact stepsFree_of_le (by rw [State.enterFade, State.postLineState, post_head]; exact h)
  | fadeBack => exact stepsFree_of_le (by rw [State.fadeBack, State.postLineState, post_head]; exact h)
  | loseLine =>
    exact stepsFree_of_le (by rw [State.loseLine, takeCarrier_steps, post_head, raise_head, endConnection_head]; exact h)
  | enterTalking => exact stepsFree_of_le h
  | toListening => exact stepsFree_of_le h
  | receive => exact stepsFree_of_le (by rwa [receive_head])
  | takeBreak => exact stepsFree_of_le (by rwa [takeBreak_head])
  | releaseHeld => exact stepsFree_of_le (by rwa [releaseHeld_head])
  | endBreak => exact stepsFree_of_le (by rwa [endBreak_head])
  | abandonGap => exact stepsFree_of_le h
  | endItem => exact stepsFree_of_le (by rwa [endItem_head])
  | scan => exact stepsFree_of_le (by rwa [scanMatrix_steps])
  | repeatNow =>
    refine stepsFree_of_le ?_
    unfold State.repeatNow State.repeatExpiry
    split
    · dsimp only
      split <;> exact h
    · exact h
  | stallHolder =>
    refine stepsFree_of_le ?_
    unfold State.stallHolder
    split
    · rwa [stallJob_head]
    · exact h
  | inputChange => exact stepsFree_of_le h
  | inputStable => exact stepsFree_of_le (by rw [State.inputStable, syncHolds_steps, raiseIf_head]; exact h)
  | supplySample => exact stepsFree_of_le (by rw [sampleSupply_steps]; exact h)
  | thermistorReading => exact stepsFree_of_le (by rw [readThermistor_steps]; exact h)

/-- Settles O60: before a step's follow-ups a row starts at the end of a row or of the settle time only, among them out of IDLE only, each where no hold is in force; and the follow-ups keep the holds. -/
theorem noRowStartsUnderHold : Obligations.NoRowStartsUnderHold := by
  intro s t run
  exact step_establishes (P := fun u => u.head.steps ≤ s.head.steps) (Q := State.StepsFree s.head.steps)
    (frame := fun _ _ _ h => h) (now := fun _ _ h => h) (wake := fun u h => Nat.le_trans (Nat.le_of_eq (wake_steps u _)) h)
    (stays := fun _ h => stepsFree_of_le h) (power := fun _ _ _ _ _ _ => stepsFree_of_le (Nat.zero_le _))
    (respond := fun _ _ h => h) (finish := fun _ h => h.finishEvent)
    (body := fun _ _ _ _ command u h => stepsFree_of_le (Nat.le_trans (Nat.le_of_eq (steps_portBody command u)) h))
    (effect := fun _ _ h e => stepsFree_effect h e) (Nat.le_refl _) run

end Sys2Proof.Machine
end

section
/-!
SUPPORT. How a controller command, an event and an expiry complete; then steps, power-on, selections, the status payload, ATTN, DOZE and the order of the follow-ups.
-/

namespace Sys2Proof.Machine

/-! ## How commands complete (R168, R169; log 3) -/

/-- A controller command whose length is right completes with what its body makes of the woken part. -/
theorem completes_of_portBody {c : Instr} {n : Nat} {p : List Byte} {body : State → State × Response} {s t : State} {r : Response}
    (command : portBody c = some (n, p, body)) (present : n ≤ p.length) (short : p.length ≤ 72)
    (out : body (s.wake .command) = (t, r)) : Completes c s (t.respond r) :=
  completes_of_checked (exec_of_portBody command s) (lengthOk_of_le present short) out

theorem completes_badLength {c : Instr} {n : Nat} {p : List Byte} {body : State → State × Response}
    (command : portBody c = some (n, p, body)) (bad : 72 < p.length ∨ p.length < n) (s : State) :
    Completes c s ((s.wake .command).respond { result := .badField }) := by
  have wrong : lengthOk n p = false := by
    simp only [lengthOk, Bool.and_eq_false_iff, decide_eq_false_iff_not]
    omega
  refine ⟨_, exec_of_portBody command s, ?_⟩
  have taken := take_settled s (checked n p body)
  rwa [checked_bad wrong] at taken

theorem completes_of_expiry {c : Instr} {s : State} {due : Option Nat} {f : State → State} {t : Nat}
    (run : exec c s = .next (s.expiry due f)) (running : due = some t) : Completes c s (f (s.reach t)) :=
  ⟨_, by rw [run, running]; rfl, settled_finishEvent _⟩

theorem completes_of_event {c : Instr} {s : State} {happens : Bool} {f : State → State}
    (run : exec c s = .next (s.event happens f)) (holds : happens = true) : Completes c s (f s) :=
  ⟨_, by rw [run, holds]; rfl, settled_finishEvent _⟩

theorem expiry_none (s : State) {due : Option Nat} (off : due = none) (f : State → State) : s.expiry due f = s := by
  rw [off]; rfl

theorem event_false (s : State) {happens : Bool} (no : happens = false) (f : State → State) : s.event happens f = s := by
  rw [no]; rfl

/-! ## Steps -/

/-- Settles O1: by the front of the queue. -/
theorem stepTakesFrontCommand : Obligations.StepTakesFrontCommand := fun _ _ _ => rfl

theorem step_of_empty {s : State} (empty : s.pending = []) : step s = idle s := by
  unfold step
  rw [empty]

/-- Of several timers the free choice takes one of them. -/
theorem pick_mem (s : State) (first : Timer) (others : List Timer) : (s.pick first others).2 ∈ first :: others := by
  cases others with
  | nil => exact List.mem_cons_self
  | cons second rest =>
    have inRange : Config.timerOrder s.choices % ((second :: rest).length + 1) < (first :: second :: rest).length :=
      Nat.mod_lt _ (Nat.succ_pos _)
    simp only [State.pick, List.getElem?_eq_getElem inRange, Option.getD_some]
    exact List.getElem_mem _

/-- Settles O2: by the list of ready timers. -/
theorem stepOnEmptyQueue : Obligations.StepOnEmptyQueue := by
  intro s empty
  rw [step_of_empty empty, idle]
  refine ⟨fun none => by rw [none], fun t one => by rw [one]; rfl, fun t u rest several => ?_, Laws.mem_ready s⟩
  rw [several]
  exact ⟨_, pick_mem s t (u :: rest), rfl⟩

/-! ## Power-on -/

/-- Settles O57: the power-on values are within every bound, and the readings of log 8 are those of `State.reset`. -/
theorem resetStateIsSound : Obligations.ResetStateIsSound := by
  have reset : State.reset.powerOn true true 720 25 = State.reset := by decide
  exact ⟨reset ▸ State.Sound.powerOn State.reset true true 720 25, lineOk_of_rest rfl rfl rfl rfl rfl rfl,
    (exec_powerOn ..).trans (congrArg _ reset)⟩

theorem powerOn_route_unlisted : ∀ n : Fin 16, 3 ≤ n.val → ({} : Store).route n = {} := by decide

/-- Settles O3: each block is its structure with the default values of its fields. -/
theorem powerOnValues : Obligations.PowerOnValues := by
  intro paper lid v r s
  refine ⟨s.powerOn paper lid v r, rfl, ?line, ?engine, ?tx, ?keys, ?store, ?ports, ?arbiter, ?composer, ?head, ?port, ?kept⟩
  case line => exact ⟨rfl, rfl, rfl, rfl, rfl, rfl, rfl, rfl⟩
  case engine =>
    have filters : ∀ n : Fin 8, ({} : Engine).filters[n] = {} := by decide
    have masks : ∀ n : Fin 4, ({} : Engine).masks[n] = {} := by decide
    exact ⟨rfl, rfl, rfl, rfl, rfl, filters, masks, rfl⟩
  case tx =>
    have slots : ∀ n : Fin 4, ({} : Transmitter).slots[n] = {} := by decide
    exact ⟨rfl, rfl, rfl, rfl, slots, rfl⟩
  case keys => exact ⟨rfl, rfl, rfl, rfl, rfl, rfl, fun _ _ => rfl, rfl⟩
  case store =>
    have softKeys : ∀ n : Fin 12, ({} : Store).softKeys[n] = {} := by decide
    have glyphs : ∀ n : Fin 32, ({} : Store).glyphs[n] = {} := by decide
    exact ⟨rfl, rfl, rfl, powerOn_route_unlisted, softKeys, glyphs, rfl, rfl⟩
  case ports => intro p; cases p <;> rfl
  case arbiter => exact ⟨rfl, rfl, rfl, rfl, rfl, rfl, rfl⟩
  case composer => exact ⟨rfl, rfl, rfl⟩
  case head => exact ⟨rfl, rfl, rfl, rfl, rfl, rfl, rfl, rfl⟩
  case port => exact ⟨rfl, rfl, rfl⟩
  case kept => exact ⟨rfl, rfl, rfl, rfl⟩

theorem validReading_iff (r : Int) : validReading r = true ↔ -30 ≤ r ∧ r ≤ 100 := by
  simp [validReading]

theorem supply_of_equal (m : Monitor) (v : Nat) (same : m.samples = { a := v, b := v, c := v, d := v }) : m.supply = v := by
  simp only [Monitor.supply, same]
  omega

/-- Settles O4: the Monitor after its first readings, and what is computed from it. -/
theorem powerOnReadings : Obligations.PowerOnReadings := by
  intro paper lid v r s
  have supply : (Monitor.powerOn s.now paper lid v r).supply = v.toNat := supply_of_equal _ _ rfl
  have cause : ∀ c, namesCause (s.powerOn paper lid v r).port.causes c
      = namesCause (Monitor.powerOn s.now paper lid v r).lasting c := fun c => by rw [powerOn_causes]
  refine ⟨s.powerOn paper lid v r, rfl, rfl, rfl, ?paperHold, rfl, supply, ?supplyHold, ?valid, ?invalid, ?thermalHold,
    rfl, rfl, rfl, rfl, ?head, ?limit, ?_, ?_, ?_, ?_⟩
  case paperHold => simp [State.powerOn, Monitor.powerOn, Monitor.paperHold]
  case supplyHold => exact decide_eq_true_iff
  case valid =>
    intro range
    have valid := (validReading_iff r).mpr range
    exact ⟨if_pos valid, by simp [State.powerOn, Monitor.powerOn, valid]⟩
  case invalid =>
    intro range
    have invalid : validReading r = false := by simp [validReading]; omega
    exact ⟨if_neg (by simp [invalid]), by simp [State.powerOn, Monitor.powerOn, invalid]⟩
  case thermalHold =>
    simp only [State.powerOn, Monitor.powerOn, validReading, Bool.and_eq_true, decide_eq_true_eq]
    omega
  case head => simp only [State.powerOn, Monitor.anyHold, Bool.or_eq_true, or_assoc]
  case limit => rw [← supply]; rfl
  all_goals
    rw [cause, namesCause_lasting]
    simp
    rfl

/-! ## Selections (R168, R178) -/

/-- The table of codes is the list of the thirty commands in their order. -/
theorem commandOfCode_eq_getElem? (code : Byte) (p : List Byte) : commandOfCode code p = (controllerCommands p)[code.toNat]? := by
  unfold commandOfCode
  generalize code.toNat = n
  iterate 30
    obtain _ | n := n
    · rfl
  rfl

theorem execShortSelection_of_short {bytes : List Byte} (short : selectionShort bytes = true) (s : State) :
    execShortSelection bytes s = .next (s.respond { result := .badField }) := if_pos short

theorem execShortSelection_of_complete {code len : Byte} {rest : List Byte} (complete : len.toNat ≤ rest.length) (s : State) :
    execShortSelection (code :: len :: rest) s
      = match commandOfCode code (rest.take len.toNat) with
        | some c => execSelected c s
        | none => .next (s.take fun s => s.refuse .unknown) := by
  have notShort : ¬ selectionShort (code :: len :: rest) = true := by simp [selectionShort, complete]
  rw [execShortSelection, if_neg notShort]
  rfl

theorem execSelected_of_code {code : Byte} {p : List Byte} {c : Instr} (spelt : commandOfCode code p = some c) (s : State) :
    execSelected c s = exec c s := by
  obtain ⟨q, rfl⟩ | ⟨n, q, body, command⟩ := commandOfCode_cases spelt
  · rfl
  · exact execSelected_of_portBody command s

theorem shiftOut_payload (r : Response) (i : Nat) : r.shiftOut (i + 2) = (r.payload[i]?).getD 0 := by
  simp [Response.shiftOut, List.getD_eq_getElem?_getD]

/-- Settles O7: a selection is short, spells a command, or has an unknown code. -/
theorem selectionsAreAnswered : Obligations.SelectionsAreAnswered := by
  refine ⟨fun bytes s fewer => ?_, fun code len rest s fewer => ?_, fun code len rest s c complete spelt => ?_,
    fun code len rest s complete past => ?_, fun _ => rfl, rfl, fun r => ⟨rfl, rfl, fun i b at_i => ?_, fun i past => ?_⟩,
    commandOfCode_eq_getElem?⟩
  · refine execShortSelection_of_short ?_ s
    match bytes, fewer with
    | [], _ => rfl
    | [_], _ => rfl
  · exact execShortSelection_of_short (by simpa [selectionShort] using fewer) s
  · rw [← commandOfCode_eq_getElem?] at spelt
    exact (execShortSelection_of_complete complete s).trans (by rw [spelt]; exact execSelected_of_code spelt s)
  · have unknown : commandOfCode code (rest.take len.toNat) = none := by
      rw [commandOfCode_eq_getElem?]
      exact List.getElem?_eq_none past
    exact ⟨_, (execShortSelection_of_complete complete s).trans (by rw [unknown]), take_settled s fun s => s.refuse .unknown⟩
  · rw [shiftOut_payload, at_i, Option.getD_some]
  · rw [shiftOut_payload, List.getElem?_eq_none past, Option.getD_none]

/-! ## Lengths, status, ATTN, DOZE -/

/-- The fixed fields of section 12.4 are those of the bodies. -/
theorem portBody_of_mem_fixedFields {p : List Byte} {x : Instr × Nat} (listed : x ∈ fixedFields p) :
    ∃ body, portBody x.1 = some (x.2, p, body) := by
  have table : ∀ x ∈ fixedFields p, ((portBody x.1).map fun b => (b.1, b.2.1)) = some (x.2, p) := by
    simp [fixedFields, portBody]
  obtain ⟨⟨n, q, body⟩, command, same⟩ := Option.map_eq_some_iff.mp (table x listed)
  cases same
  exact ⟨body, command⟩

/-- Settles O9: one lemma for all commands that have fixed fields. -/
theorem wrongLengthIsBadField : Obligations.WrongLengthIsBadField := by
  intro p s x listed bad
  obtain ⟨body, command⟩ := portBody_of_mem_fixedFields listed
  exact completes_badLength command bad s

theorem grantCode_le (c : Composer) : c.grantCode ≤ 4 := by
  unfold Composer.grantCode
  split
  · next l _ => cases l.port <;> decide
  · omega

theorem holdCode_le (a : Arbiter) : a.holdCode ≤ 3 := by
  unfold Arbiter.holdCode
  split
  · next p _ => cases p <;> decide
  · omega

theorem headCode_le (x : HeadState) : x.code ≤ 4 := by cases x <;> decide

/-- Settles O11: the bytes stand in the payload in their order; the two bytes with zero bits stay under 64 and 128. -/
theorem readStatusReports : Obligations.ReadStatusReports := by
  refine ⟨fun p s short => completes_of_portBody (n := 0) rfl (Nat.zero_le _) short rfl, fun s => ?_, rfl, rfl, rfl, rfl⟩
  have grant := grantCode_le s.comp
  have hold := holdCode_le s.arb
  have head := headCode_le s.head.state
  refine ⟨rfl, rfl, rfl, rfl, rfl, rfl, rfl, rfl, rfl, rfl, ?_, ?_, rfl, rfl, rfl, rfl, rfl, rfl, rfl, rfl, rfl, rfl, rfl, rfl,
    ?_, ?_, ?direction, ?turned, ?noLine, ?line, ?noHold, ?hold2, ?hold3⟩
  case direction =>
    rintro (notTurned | none)
    · unfold Line.directionCode
      split
      · exact if_neg (by simpa using notTurned)
      · rfl
    · simp [Line.directionCode, none]
  case turned =>
    intro speed online d listed direction
    have code : s.line.directionCode = d.1.code := by simp [Line.directionCode, direction, speed, online]
    rw [code]
    revert d
    simp [Direction.code]
  case noLine => intro none; simp [Composer.grantCode, none]
  case line =>
    intro l line q listed port
    have code : s.comp.grantCode = 1 + portCode q.1 := by simp [Composer.grantCode, line, port]
    rw [code]
    revert q
    simp [portCode]
  case noHold => intro none; simp [Arbiter.holdCode, none]
  case hold2 => intro some; simp [Arbiter.holdCode, some, JobPort.code]
  case hold3 => intro some; simp [Arbiter.holdCode, some, JobPort.code]
  · show BitVec.ofNat 8 _ = BitVec.ofNat 8 _
    cases s.arb.pause <;> rfl
  · show BitVec.ofNat 8 _ = BitVec.ofNat 8 _
    cases s.mon.paperHold <;> cases s.mon.supplyHold <;> cases s.mon.thermalHold <;> cases s.mon.fallback <;> rfl
  · show (BitVec.ofNat 8 (s.comp.grantCode + 8 * s.arb.holdCode + if s.arb.pause then 2 ^ 5 else 0)).toNat < 64
    rw [BitVec.toNat_ofNat]
    split <;> omega
  · show (BitVec.ofNat 8 (s.head.state.code + (if s.mon.paperHold then 2 ^ 3 else 0) + (if s.mon.supplyHold then 2 ^ 4 else 0)
      + (if s.mon.thermalHold then 2 ^ 5 else 0) + if s.mon.fallback then 2 ^ 6 else 0)).toNat < 128
    rw [BitVec.toNat_ofNat]
    split <;> split <;> split <;> split <;> omega

theorem attn_iff (s : State) : s.attn = true ↔
    s.crq ≠ [] ∨ ∃ i : Fin 10, s.port.causes.getLsbD i = true ∧ s.port.mask.getLsbD i = false := by
  have unmasked : s.port.causes &&& ~~~s.port.mask ≠ 0
      ↔ ∃ i : Fin 10, s.port.causes.getLsbD i = true ∧ s.port.mask.getLsbD i = false := by
    constructor
    · refine fun set => Classical.byContradiction fun none => set ?_
      refine BitVec.eq_of_getLsbD_eq fun i hi => ?_
      have clear : ¬ (s.port.causes.getLsbD i = true ∧ s.port.mask.getLsbD i = false) := fun h => none ⟨⟨i, hi⟩, h⟩
      simpa [hi] using clear
    · rintro ⟨i, set, clear⟩ zero
      have bit := congrArg (BitVec.getLsbD · i.val) zero
      simp only [BitVec.getLsbD_and, BitVec.getLsbD_not, set, clear, i.isLt] at bit
      simp at bit
  rw [← unmasked, State.attn]
  simp

theorem setAttnMaskBody_of_lt {p : List Byte} (within : wordAt p 0 < 1024) (s : State) :
    setAttnMaskBody p s = (s.setPort { s.port with mask := BitVec.ofNat 10 (wordAt p 0) }).done (wordBytes (wordAt p 0)) := by
  have same : (BitVec.ofNat 10 (wordAt p 0)).toNat = wordAt p 0 := Nat.mod_eq_of_lt within
  rw [setAttnMaskBody, field_some (causeSet?_of_lt within), same]

/-- Settles O13: a cause is shown exactly where it is set and in the mask. -/
theorem attnFollowsMask : Obligations.AttnFollowsMask := by
  refine ⟨fun x c listed => ?_, fun p s present short => ⟨fun past => ?_, fun within => ?_⟩, attn_iff⟩
  · rw [namesCause_eq_getLsbD, causeBit_table c listed]
  · exact completes_of_portBody rfl present short (field_none (causeSet?_of_le past) _ _)
  · exact completes_of_portBody rfl present short (setAttnMaskBody_of_lt within _)

theorem mayDoze_iff (s : State) : s.mayDoze = true ↔ s.head.state = .idle ∧ (∀ q : PortId, (s.arb.port q).cells = [])
    ∧ s.comp.rows = [] ∧ s.comp.line = none ∧ (s.line.state = .off ∨ s.line.state = .listen) := by
  have ports : (∀ q : PortId, (s.arb.port q).cells = [])
      ↔ s.arb.p0.cells = [] ∧ s.arb.p1.cells = [] ∧ s.arb.p2.cells = [] ∧ s.arb.p3.cells = [] :=
    ⟨fun all => ⟨all .p0, all .p1, all .p2, all .p3⟩, fun ⟨e0, e1, e2, e3⟩ q => by cases q <;> assumption⟩
  rw [ports]
  simp [State.mayDoze, and_assoc]

/-- Settles O15: by whether the conditions of the command hold. -/
theorem dozeEntered : Obligations.DozeEntered := by
  intro p s short w may
  refine ⟨fun yes => ?_, fun no => ?_⟩
  · exact completes_of_portBody rfl (Nat.zero_le _) short (if_pos ((mayDoze_iff w).mpr yes))
  · exact completes_of_portBody rfl (Nat.zero_le _) short (if_neg (mt (mayDoze_iff w).mp no))

/-! ## Follow-ups -/

theorem settle_succ_of_some {s : State} {a : Action} (next : s.nextAction = some a) (n : Nat) :
    State.settle (n + 1) s = State.settle n (s.perform a).watchStall := by
  rw [State.settle, next]

theorem settle_of_none {s : State} (next : s.nextAction = none) (n : Nat) : State.settle n s = s := by
  cases n with
  | zero => rfl
  | succ n => rw [State.settle, next]

theorem mayStart_iff (s : State) : s.mayStart = true ↔ s.head.state = .idle ∧ s.mon.anyHold = false ∧ s.headWork = true := by
  simp [State.mayStart, and_assoc]

/-- Settles O17: the order of the branches of `nextAction`. -/
theorem followUpsEndTheEvent : Obligations.FollowUpsEndTheEvent := by
  refine ⟨?_, fun _ => rfl, fun n s none => settle_of_none none n, fun n s a some => settle_succ_of_some some n, fun s => ?_,
    fun s => ⟨fun _ => rfl, rfl, rfl, rfl, fun _ => rfl, rfl, rfl, rfl, rfl⟩⟩
  · rintro c s a ⟨t, run, settled⟩
    rw [run, settled.ends]
  · intro rowStarts
    refine ⟨fun x act => by rw [State.nextAction, act], fun none starts => ?_, fun none noStart => ?_⟩
    · simp [State.nextAction, none, (mayStart_iff s).mpr starts]
    · have idle : s.mayStart = false := by simpa using mt (mayStart_iff s).mp noStart
      refine ⟨fun append => by simp [State.nextAction, none, idle, append],
        fun append finish => by simp [State.nextAction, none, idle, append, finish], fun append finish => ?_⟩
      refine ⟨fun q grant => by simp [State.nextAction, none, idle, append, finish, grant], fun grant => ?_⟩
      have delivery : s.nextAction = s.deliveryAction := by simp [State.nextAction, none, idle, append, finish, grant]
      rw [delivery]
      refine ⟨fun route dispatch => by simp [State.deliveryAction, route, dispatch],
        fun route dispatch => by simp [State.deliveryAction, route, dispatch], fun route dispatch => ?_,
        fun route dispatch => by simp [State.deliveryAction, route, dispatch]⟩
      cases first : Config.routerFirst s.choices <;> simp [State.deliveryAction, route, dispatch, first]

end Sys2Proof.Machine
end

section
/-!
SUPPORT. The codes of the enumerated fields and past their ranges (section 12.4); CONFIG LINE (R3) and the writing of filters, masks and the Default Action (R33).
-/

namespace Sys2Proof.Machine

/-! ## Codes of enumerated fields (section 12.4) -/

section
variable {b : Byte}

/-- A byte past a bound is none of the codes below it. -/
theorem ne_of_past {n : Nat} (past : n ≤ b.toNat) {c : Byte} (low : c.toNat < n) : b ≠ c := by
  rintro rfl
  omega

theorem flag?_of_past (past : 2 ≤ b.toNat) : flag? b = none := by
  rw [flag?, if_neg (ne_of_past past (by decide)), if_neg (ne_of_past past (by decide))]

theorem speed?_of_past (past : 2 ≤ b.toNat) : speed? b = none := by
  rw [speed?, if_neg (ne_of_past past (by decide)), if_neg (ne_of_past past (by decide))]

theorem role?_of_past (past : 2 ≤ b.toNat) : role? b = none := by
  rw [role?, if_neg (ne_of_past past (by decide)), if_neg (ne_of_past past (by decide))]

theorem format?_of_past (past : 3 ≤ b.toNat) : format? b = none := by
  rw [format?, if_neg (ne_of_past past (by decide)), if_neg (ne_of_past past (by decide)), if_neg (ne_of_past past (by decide))]

theorem filterAction?_of_past (past : 2 ≤ b.toNat) : filterAction? b = none := by
  rw [filterAction?, if_neg (ne_of_past past (by decide)), if_neg (ne_of_past past (by decide))]

theorem fin?_eq_some_iff {n : Nat} {x : Fin n} : fin? n b = some x ↔ b.toNat = x.val := by
  unfold fin?
  split
  · simp [Fin.ext_iff]
  · next past =>
    have := x.isLt
    simp only [reduceCtorEq, false_iff]
    omega

theorem fin?_of_lt {n : Nat} (low : b.toNat < n) : fin? n b = some ⟨b.toNat, low⟩ := dif_pos low

theorem fin?_of_past {n : Nat} (past : n ≤ b.toNat) : fin? n b = none := dif_neg (Nat.not_lt.mpr past)

end

/-! ## CONFIG LINE (R3) -/

theorem lineSettings?_of_fields {p : List Byte} {speed role format station route}
    (hspeed : speed? (byteAt p 0) = some speed) (hrole : role? (byteAt p 1) = some role)
    (hformat : format? (byteAt p 2) = some format) (hstation : fin? 31 (byteAt p 3) = some station)
    (hroute : fin? 16 (byteAt p 4) = some route) :
    lineSettings? p = some
      { speed := speed, role := role, format := format, station := station, textRoute := route, substitute := byteAt p 5
        qualifyMs := quantize 50 50 1600 (wordAt p 6), lossMs := quantize 10 10 320 (wordAt p 8)
        dropMs := quantize 200 200 6400 (wordAt p 10), gapMs := quantize 10 20 200 (wordAt p 12)
        talkMs := quantize 500 500 8000 (wordAt p 14) } := by
  simp [lineSettings?, hspeed, hrole, hformat, hstation, hroute]

theorem lineSettings?_of_past {p : List Byte}
    (past : 2 ≤ (byteAt p 0).toNat ∨ 2 ≤ (byteAt p 1).toNat ∨ 3 ≤ (byteAt p 2).toNat ∨ 31 ≤ (byteAt p 3).toNat
      ∨ 16 ≤ (byteAt p 4).toNat) : lineSettings? p = none := by
  rcases past with past | past | past | past | past
  · simp [lineSettings?, speed?_of_past past]
  · simp [lineSettings?, role?_of_past past]
  · simp [lineSettings?, format?_of_past past]
  · simp [lineSettings?, fin?_of_past past]
  · simp [lineSettings?, fin?_of_past past]

theorem configLineBody_of_off {s : State} (off : s.line.state = .off) (p : List Byte) :
    configLineBody p s = field (lineSettings? p) (fun x s => (s.setLine { s.line with settings := x }).done []) s := if_pos off

/-- Settles O16: by the fields and by whether the line is OFF. -/
theorem configLineWrites : Obligations.ConfigLineWrites := by
  refine ⟨⟨rfl, rfl, fun _ => speed?_of_past⟩, ⟨rfl, rfl, fun _ => role?_of_past⟩, ⟨rfl, rfl, rfl, fun _ => format?_of_past⟩,
    fun _ _ _ => fin?_eq_some_iff, fun p s present short => ?_⟩
  have off_wake (off : s.line.state = .off) : (s.wake .command).line.state = .off := by rwa [wake_line]
  refine ⟨fun on => ?busy, fun off past => ?badField, fun off speed role format station route h1 h2 h3 h4 h5 => ?written⟩
  case busy => exact completes_of_portBody rfl present short (if_neg (by rwa [wake_line]))
  case badField =>
    exact completes_of_portBody rfl present short
      ((configLineBody_of_off (off_wake off) p).trans (field_none (lineSettings?_of_past past) _ _))
  case written =>
    exact completes_of_portBody rfl present short
      ((configLineBody_of_off (off_wake off) p).trans (field_some (lineSettings?_of_fields h1 h2 h3 h4 h5) _ _))

/-! ## Filters, masks and the Default Action (R33) -/

theorem filtersOpen_iff (l : Line) : l.filtersOpen = true ↔ l.state = .off ∨ l.state = .listen := by
  simp [Line.filtersOpen]

section
variable {p : List Byte}

theorem filter?_of_past (past : 2 ≤ (byteAt p 1).toNat ∨ 8 ≤ (byteAt p 2).toNat ∨ 16 ≤ (byteAt p 3).toNat
      ∨ 4 ≤ (byteAt p 4).toNat ∨ 4 ≤ (byteAt p 5).toNat ∨ 2 ≤ (byteAt p 6).toNat ∨ 2 ≤ (byteAt p 7).toNat) :
    filter? p = none := by
  rcases past with past | past | past | past | past | past | past
  · simp [filter?, flag?_of_past past]
  · simp [filter?, fin?_of_past past]
  · simp [filter?, fin?_of_past past]
  · simp [filter?, fin?_of_past past]
  · simp [filter?, fin?_of_past past]
  · simp [filter?, filterAction?_of_past past]
  · simp [filter?, flag?_of_past past]

theorem filter?_of_fields {enable mask action report} (henable : flag? (byteAt p 1) = some enable)
    (hkind : (byteAt p 2).toNat < 8) (hroute : (byteAt p 3).toNat < 16) (hsegment : (byteAt p 4).toNat < 4)
    (hmask : fin? 4 (byteAt p 5) = some mask) (haction : filterAction? (byteAt p 6) = some action)
    (hreport : flag? (byteAt p 7) = some report) :
    filter? p = some { enable := enable, kind := (byteAt p 2).setWidth 3, route := (byteAt p 3).setWidth 4,
                       segment := (byteAt p 4).setWidth 2, mask := mask, action := action, report := report } := by
  simp only [filter?, henable, fin?_of_lt hkind, fin?_of_lt hroute, fin?_of_lt hsegment, hmask, haction, hreport,
    Option.bind_eq_bind, Option.bind_some, Option.pure_def, BitVec.ofNat_toNat]

theorem filterMask?_of_past (past : 8 ≤ (byteAt p 1).toNat ∨ 16 ≤ (byteAt p 2).toNat ∨ 4 ≤ (byteAt p 3).toNat) :
    filterMask? p = none := by
  rcases past with past | past | past
  all_goals simp [filterMask?, fin?_of_past past]

theorem filterMask?_of_fields (hkind : (byteAt p 1).toNat < 8) (hroute : (byteAt p 2).toNat < 16)
    (hsegment : (byteAt p 3).toNat < 4) :
    filterMask? p = some { kind := (byteAt p 1).setWidth 3, route := (byteAt p 2).setWidth 4,
                           segment := (byteAt p 3).setWidth 2 } := by
  simp only [filterMask?, fin?_of_lt hkind, fin?_of_lt hroute, fin?_of_lt hsegment,
    Option.bind_eq_bind, Option.bind_some, Option.pure_def, BitVec.ofNat_toNat]

theorem defaultAction?_of_past (past : 2 ≤ (byteAt p 0).toNat ∨ 2 ≤ (byteAt p 1).toNat) : defaultAction? p = none := by
  rcases past with past | past
  · simp [defaultAction?, filterAction?_of_past past]
  · simp [defaultAction?, flag?_of_past past]

theorem defaultAction?_of_fields {action report} (haction : filterAction? (byteAt p 0) = some action)
    (hreport : flag? (byteAt p 1) = some report) : defaultAction? p = some { action := action, report := report } := by
  simp [defaultAction?, haction, hreport]

end

/-- The number decoded, what SET FILTER does by the line state. -/
theorem setFilterBody_of_number {p : List Byte} {n : Fin 8} (number : fin? 8 (byteAt p 0) = some n) (s : State) :
    setFilterBody p s = if s.line.filtersOpen then
      field (filter? p) (fun f s => (s.setEngine { s.engine with filters := s.engine.filters.set n f }).done []) s
    else s.refuse .busy := field_some number _ s

theorem setMaskBody_of_number {p : List Byte} {n : Fin 4} (number : fin? 4 (byteAt p 0) = some n) (s : State) :
    setMaskBody p s = if s.line.filtersOpen then
      field (filterMask? p) (fun m s => (s.setEngine { s.engine with masks := s.engine.masks.set n m }).done []) s
    else s.refuse .busy := field_some number _ s

/-- Settles O19: the number, then the line state, then the fields. -/
theorem filtersAreWritten : Obligations.FiltersAreWritten := by
  refine ⟨⟨rfl, rfl, fun _ => flag?_of_past⟩, ⟨rfl, rfl, fun _ => filterAction?_of_past⟩, fun _ _ _ => fin?_eq_some_iff,
    fun p s present short => ?filter, fun p s present short => ?mask, fun p s present short => ?default⟩
  all_goals intro w
  case filter =>
    intro isOpen
    have opens : w.line.filtersOpen = true ↔ isOpen := by rw [filtersOpen_iff, wake_line]
    refine ⟨fun past => completes_of_portBody rfl present short (field_none (fin?_of_past past) _ _), fun n number => ⟨?_, ?_, ?_⟩⟩
    · intro closed
      exact completes_of_portBody rfl present short ((setFilterBody_of_number number w).trans (if_neg (mt opens.mp closed)))
    · intro free past
      exact completes_of_portBody rfl present short ((setFilterBody_of_number number w).trans
        ((if_pos (opens.mpr free)).trans (field_none (filter?_of_past past) _ _)))
    · intro free enable mask action report h1 h2 h3 h4 h5 h6 h7
      exact completes_of_portBody rfl present short ((setFilterBody_of_number number w).trans
        ((if_pos (opens.mpr free)).trans (field_some (filter?_of_fields h1 h2 h3 h4 h5 h6 h7) _ _)))
  case mask =>
    intro isOpen
    have opens : w.line.filtersOpen = true ↔ isOpen := by rw [filtersOpen_iff, wake_line]
    refine ⟨fun past => completes_of_portBody rfl present short (field_none (fin?_of_past past) _ _), fun n number => ⟨?_, ?_, ?_⟩⟩
    · intro closed
      exact completes_of_portBody rfl present short ((setMaskBody_of_number number w).trans (if_neg (mt opens.mp closed)))
    · intro free past
      exact completes_of_portBody rfl present short ((setMaskBody_of_number number w).trans
        ((if_pos (opens.mpr free)).trans (field_none (filterMask?_of_past past) _ _)))
    · intro free h1 h2 h3
      exact completes_of_portBody rfl present short ((setMaskBody_of_number number w).trans
        ((if_pos (opens.mpr free)).trans (field_some (filterMask?_of_fields h1 h2 h3) _ _)))
  case default =>
    exact ⟨fun past => completes_of_portBody rfl present short (field_none (defaultAction?_of_past past) _ _),
      fun action report h1 h2 => completes_of_portBody rfl present short (field_some (defaultAction?_of_fields h1 h2) _ _)⟩

end Sys2Proof.Machine
end

section
/-!
SUPPORT. The end of a connection, block by block (R11, R54, R126); LINE ON and LINE OFF; the carrier, the timers of the line and the turns of TA1200 (R4 to R12, R18, R19).
-/

namespace Sys2Proof.Machine
open Sys2Proof.Laws

/-! ## Missing-Last handling of P3 (R126) -/

theorem missingLast_of_not_open {s : State} (job : s.arb.job3 ≠ .opened) : s.missingLast = s := if_neg job

/-- The Arbiter after Missing-Last handling of an OPEN job: a JobEnd where P3 has room, else the rest of the job is discarded. -/
def Arbiter.lastMissing (a : Arbiter) (now : Nat) : Arbiter :=
  if a.p3.cells.length < 96 then { a with p3 := a.p3.putCells now [.jobEnd], job3 := .none } else { a with job3 := .discarding }

theorem missingLast_of_open {s : State} (job : s.arb.job3 = .opened) :
    s.missingLast = ((s.setArb (s.arb.lastMissing s.now)).post (.jobEvent .p3 .missingLast)).raise .jobError := by
  have room : s.arb.room .p3 = 0 ↔ ¬ s.arb.p3.cells.length < 96 := by
    simp only [Arbiter.room, portCapacity, Arbiter.port]
    omega
  unfold State.missingLast Arbiter.lastMissing
  rw [if_pos job]
  by_cases space : s.arb.p3.cells.length < 96
  · rw [if_neg (fun full => room.mp full space), if_pos space]
    rfl
  · rw [if_pos (room.mpr space), if_neg space]

/-! ## Notices and causes (R104, section 11.6) -/

theorem raise_eq (s : State) (c : Cause) : s.raise c = s.setPort { s.port with causes := (s.raise c).port.causes } := rfl

theorem namesCause_raise_of_ne {c d : Cause} (other : d ≠ c) (s : State) :
    namesCause (s.raise c).port.causes d = namesCause s.port.causes d := by
  rw [namesCause_raise, decide_eq_false other, Bool.or_false]

/-- A notice raises no cause but Notice Lost. -/
theorem namesCause_post_of_ne {d : Cause} (other : d ≠ .noticeLost) (s : State) (n : Notice) :
    namesCause (s.post n).port.causes d = namesCause s.port.causes d := by
  by_cases room : s.crq.length < 64
  · rw [post_of_room room]; rfl
  · rw [post_of_full (Nat.not_lt.mp room), namesCause_raise_of_ne other]

/-- A posted notice enters the CRQ and may set causes; nothing else changes. -/
theorem post_eq (s : State) (n : Notice) :
    s.post n = (s.setCrq (s.post n).crq).setPort { s.port with causes := (s.post n).port.causes } := by
  by_cases room : s.crq.length < 64
  · rw [post_of_room room]; rfl
  · rw [post_of_full (Nat.not_lt.mp room)]; rfl

/-! ## The slot that was sending (R11 item 4, R54) -/

section
variable {s : State}

theorem loseSlot_of_not_sending {n : Fin 4} (other : s.tx.slots[n].state ≠ .sending) : s.loseSlot n = s := if_neg other

theorem loseSlot_of_sending {n : Fin 4} (sending : s.tx.slots[n].state = .sending) :
    s.loseSlot n = (s.setTx { s.tx with slots := s.tx.slots.set n { s.tx.slots[n] with state := .aborted, abortNoted := false } }).post
      (.slotDone n .lineLost) := if_pos sending

/-- A slot after the loss of the line. -/
def Slot.lineLost (x : Slot) : Slot := if x.state = .sending then { x with state := .aborted, abortNoted := false } else x

theorem lineLost_not_sending (x : Slot) : x.lineLost.state ≠ .sending := by
  unfold Slot.lineLost
  split
  · exact nofun
  · assumption

theorem lineLost_lineLost (x : Slot) : x.lineLost.lineLost = x.lineLost := by
  by_cases sending : x.state = .sending <;> simp [Slot.lineLost, sending]

theorem getElem_set_fin {α : Type} {k : Nat} (v : Vector α k) (n m : Fin k) (x : α) :
    (v.set n x)[m] = if n = m then x else v[m] := by
  simp [Vector.getElem_set, Fin.ext_iff]

@[simp] theorem post_tx (s : State) (n : Notice) : (s.post n).tx = s.tx := by rw [post_eq]; rfl

theorem loseSlot_slots (s : State) (n m : Fin 4) :
    (s.loseSlot n).tx.slots[m] = if n = m then s.tx.slots[m].lineLost else s.tx.slots[m] := by
  by_cases sending : s.tx.slots[n].state = .sending
  · rw [loseSlot_of_sending sending, post_tx, setTx_tx, getElem_set_fin]
    split
    · next same => subst same; exact (if_pos sending).symm
    · rfl
  · rw [loseSlot_of_not_sending sending]
    split
    · next same => subst same; exact (if_neg sending).symm
    · rfl

/-- The slots but for those in SENDING, at the end of a connection. -/
def State.lostSlots (s : State) : State := (List.finRange 4).foldl State.loseSlot s

theorem endConnection_eq (s : State) : s.endConnection = s.quietLine.lostSlots.missingLast := rfl

theorem foldl_loseSlot_slots (l : List (Fin 4)) (s : State) (m : Fin 4) :
    (l.foldl State.loseSlot s).tx.slots[m] = if m ∈ l then s.tx.slots[m].lineLost else s.tx.slots[m] := by
  induction l generalizing s with
  | nil => rfl
  | cons n l ih =>
    rw [List.foldl_cons, ih, loseSlot_slots]
    by_cases same : n = m
    · subst same; simp [lineLost_lineLost]
    · simp [same, Ne.symm same]

theorem lostSlots_slots (s : State) (n : Fin 4) : s.lostSlots.tx.slots[n] = s.tx.slots[n].lineLost :=
  by rw [State.lostSlots, foldl_loseSlot_slots, if_pos (List.mem_finRange n)]

/-- The slots, the CRQ and the causes are all that changes. -/
theorem foldl_loseSlot_frame (l : List (Fin 4)) (s : State) : ∃ slots crq causes,
    l.foldl State.loseSlot s = ((s.setTx { s.tx with slots := slots }).setCrq crq).setPort { s.port with causes := causes } := by
  induction l generalizing s with
  | nil => exact ⟨s.tx.slots, s.crq, s.port.causes, rfl⟩
  | cons n l ih =>
    obtain ⟨slots, crq, causes, rest⟩ := ih (s.loseSlot n)
    rw [List.foldl_cons, rest]
    by_cases sending : s.tx.slots[n].state = .sending
    · rw [loseSlot_of_sending sending, post_eq]
      exact ⟨slots, crq, causes, rfl⟩
    · rw [loseSlot_of_not_sending sending]
      exact ⟨slots, crq, causes, rfl⟩

theorem foldl_loseSlot_of_none (l : List (Fin 4)) (none : ∀ n ∈ l, s.tx.slots[n].state ≠ .sending) :
    l.foldl State.loseSlot s = s := by
  induction l with
  | nil => rfl
  | cons n l ih =>
    rw [List.foldl_cons, loseSlot_of_not_sending (none n List.mem_cons_self)]
    exact ih fun m mem => none m (List.mem_cons_of_mem _ mem)

/-- One slot in SENDING: it is lost, and that is all. -/
theorem foldl_loseSlot_of_one {n : Fin 4} (others : ∀ m, m ≠ n → s.tx.slots[m].state ≠ .sending) (l : List (Fin 4))
    (mem : n ∈ l) : l.foldl State.loseSlot s = s.loseSlot n := by
  induction l with
  | nil => cases mem
  | cons k l ih =>
    rw [List.foldl_cons]
    by_cases same : k = n
    · subst same
      refine foldl_loseSlot_of_none l fun m _ => ?_
      rw [loseSlot_slots]
      split
      · exact lineLost_not_sending _
      · next differ => exact others m (Ne.symm differ)
    · rw [loseSlot_of_not_sending (others k same)]
      exact ih ((List.mem_cons.mp mem).resolve_left (Ne.symm same))

/-- At a full CRQ no notice enters, and where a slot was sending Notice Lost is raised. -/
theorem foldl_loseSlot_of_full (l : List (Fin 4)) (s : State) (full : 64 ≤ s.crq.length) :
    (l.foldl State.loseSlot s).crq = s.crq
    ∧ (namesCause s.port.causes .noticeLost = true → namesCause (l.foldl State.loseSlot s).port.causes .noticeLost = true)
    ∧ ((∃ n ∈ l, s.tx.slots[n].state = .sending) → namesCause (l.foldl State.loseSlot s).port.causes .noticeLost = true) := by
  induction l generalizing s with
  | nil => exact ⟨rfl, id, fun ⟨_, mem, _⟩ => by cases mem⟩
  | cons n l ih =>
    by_cases sending : s.tx.slots[n].state = .sending
    · have lost := loseSlot_of_sending sending
      rw [post_of_full (by exact full)] at lost
      obtain ⟨crq, keeps, _⟩ := ih (s.loseSlot n) (by rw [lost]; exact full)
      have named : namesCause (s.loseSlot n).port.causes .noticeLost = true := by rw [lost]; exact namesCause_raise_same _ _
      exact ⟨crq.trans (by rw [lost]; rfl), fun _ => keeps named, fun _ => keeps named⟩
    · have same := loseSlot_of_not_sending sending
      rw [List.foldl_cons, same]
      obtain ⟨crq, keeps, some⟩ := ih s full
      refine ⟨crq, keeps, fun ⟨m, mem, sends⟩ => some ⟨m, ?_, sends⟩⟩
      refine (List.mem_cons.mp mem).resolve_left ?_
      rintro rfl
      exact sending sends

theorem foldl_loseSlot_causes {c : Cause} (other : c ≠ .noticeLost) (l : List (Fin 4)) (s : State) :
    namesCause (l.foldl State.loseSlot s).port.causes c = namesCause s.port.causes c := by
  induction l generalizing s with
  | nil => rfl
  | cons n l ih =>
    rw [List.foldl_cons, ih]
    by_cases sending : s.tx.slots[n].state = .sending
    · rw [loseSlot_of_sending sending, namesCause_post_of_ne other]; rfl
    · rw [loseSlot_of_not_sending sending]

end

/-! ## The end of a connection (R11) -/

section
variable (s : State)

theorem lostSlots_frame : ∃ slots crq causes,
    s.lostSlots = ((s.setTx { s.tx with slots := slots }).setCrq crq).setPort { s.port with causes := causes } :=
  foldl_loseSlot_frame _ s

theorem lostSlots_of_none {s : State} (none : ∀ n : Fin 4, s.tx.slots[n].state ≠ .sending) : s.lostSlots = s :=
  foldl_loseSlot_of_none _ fun n _ => none n

theorem lostSlots_of_one {s : State} {n : Fin 4} (others : ∀ m : Fin 4, m ≠ n → s.tx.slots[m].state ≠ .sending) :
    s.lostSlots = s.loseSlot n := foldl_loseSlot_of_one others _ (List.mem_finRange n)

/-- Missing-Last handling changes the Arbiter, the CRQ and the causes alone. -/
theorem missingLast_frame : ∃ arb crq causes,
    s.missingLast = ((s.setArb arb).setCrq crq).setPort { s.port with causes := causes } := by
  by_cases job : s.arb.job3 = .opened
  · rw [missingLast_of_open job, raise_eq, post_eq]
    exact ⟨_, _, _, rfl⟩
  · rw [missingLast_of_not_open job]
    exact ⟨s.arb, s.crq, s.port.causes, rfl⟩

theorem missingLast_crq_of_room {s : State} (job : s.arb.job3 = .opened) (room : s.crq.length < 64) :
    s.missingLast.crq = s.crq ++ [.notice (.jobEvent .p3 .missingLast)]
    ∧ namesCause s.missingLast.port.causes .noticeLost = namesCause s.port.causes .noticeLost := by
  have room' : (s.setArb (s.arb.lastMissing s.now)).crq.length < 64 := room
  rw [missingLast_of_open job, post_of_room room']
  exact ⟨rfl, namesCause_raise_of_ne (by decide) _⟩

theorem missingLast_crq_of_full {s : State} (full : 64 ≤ s.crq.length) : s.missingLast.crq = s.crq
    ∧ (s.arb.job3 = .opened ∨ namesCause s.port.causes .noticeLost = true →
        namesCause s.missingLast.port.causes .noticeLost = true) := by
  have full' : 64 ≤ (s.setArb (s.arb.lastMissing s.now)).crq.length := full
  by_cases job : s.arb.job3 = .opened
  · rw [missingLast_of_open job, post_of_full full']
    exact ⟨rfl, fun _ => namesCause_raise_of_named (namesCause_raise_same _ _) _⟩
  · rw [missingLast_of_not_open job]
    exact ⟨rfl, fun named => named.resolve_left job⟩

theorem missingLast_jobError : namesCause s.missingLast.port.causes .jobError
    = (namesCause s.port.causes .jobError || s.arb.job3 == .opened) := by
  by_cases job : s.arb.job3 = .opened
  · rw [missingLast_of_open job, namesCause_raise_same, job]
    simp
  · rw [missingLast_of_not_open job, beq_eq_false_iff_ne.mpr job, Bool.or_false]

theorem missingLast_causes {c : Cause} (lost : c ≠ .noticeLost) (error : c ≠ .jobError) :
    namesCause s.missingLast.port.causes c = namesCause s.port.causes c := by
  by_cases job : s.arb.job3 = .opened
  · rw [missingLast_of_open job, namesCause_raise_of_ne error, namesCause_post_of_ne lost]; rfl
  · rw [missingLast_of_not_open job]

theorem missingLast_arb_of_open {s : State} (job : s.arb.job3 = .opened) : s.missingLast.arb = s.arb.lastMissing s.now := by
  rw [missingLast_of_open job, raise_arb, post_arb, setArb_arb]

theorem lastMissing_of_room {a : Arbiter} (room : a.p3.cells.length < 96) (now : Nat) :
    a.lastMissing now = { a with p3 := a.p3.putCells now [.jobEnd], job3 := .none } := if_pos room

theorem lastMissing_of_full {a : Arbiter} (full : 96 ≤ a.p3.cells.length) (now : Nat) :
    a.lastMissing now = { a with job3 := .discarding } := if_neg (Nat.not_lt.mpr full)

/-- Missing-Last handling concerns P3 and its job alone. -/
theorem missingLast_arb_frame : s.missingLast.arb.hold = s.arb.hold ∧ s.missingLast.arb.p2 = s.arb.p2
    ∧ s.missingLast.arb.job2 = s.arb.job2 := by
  by_cases job : s.arb.job3 = .opened
  · rw [missingLast_arb_of_open job, Arbiter.lastMissing]
    split <;> exact ⟨rfl, rfl, rfl⟩
  · rw [missingLast_of_not_open job]
    exact ⟨rfl, rfl, rfl⟩

/-- Nothing but the transmitter's slots, the Arbiter, the CRQ and the causes tells the end of a connection from the line gone quiet. -/
theorem endConnection_frame : ∃ slots arb crq causes,
    s.endConnection = (((s.quietLine.setTx { s.quietLine.tx with slots := slots }).setArb arb).setCrq crq).setPort
      { s.port with causes := causes } := by
  obtain ⟨slots, _, _, lost⟩ := lostSlots_frame s.quietLine
  obtain ⟨arb, crq, causes, missing⟩ := missingLast_frame s.quietLine.lostSlots
  exact ⟨slots, arb, crq, causes, by rw [endConnection_eq, missing, lost]; rfl⟩

theorem lostSlots_arb : s.lostSlots.arb = s.arb := by
  obtain ⟨slots, crq, causes, lost⟩ := lostSlots_frame s
  rw [lost]; rfl

theorem lostSlots_now : s.lostSlots.now = s.now := by
  obtain ⟨slots, crq, causes, lost⟩ := lostSlots_frame s
  rw [lost]; rfl

end

/-- What the lost slots leave in the CRQ and of the causes. -/
theorem lostSlots_notices (s : State) :
    (∀ n : Fin 4, s.tx.slots[n].state = .sending → (∀ m : Fin 4, m ≠ n → s.tx.slots[m].state ≠ .sending) →
        s.crq.length < 64 → s.lostSlots.crq = s.crq ++ [.notice (.slotDone n .lineLost)] ∧ s.lostSlots.port = s.port)
    ∧ (64 ≤ s.crq.length → s.lostSlots.crq = s.crq
        ∧ ((∃ n : Fin 4, s.tx.slots[n].state = .sending) → namesCause s.lostSlots.port.causes .noticeLost = true)) := by
  refine ⟨fun n sending others room => ?_, fun full => ?_⟩
  · rw [lostSlots_of_one others, loseSlot_of_sending sending, post_of_room (by exact room)]
    exact ⟨rfl, rfl⟩
  · obtain ⟨crq, _, some⟩ := foldl_loseSlot_of_full (List.finRange 4) s full
    rw [State.lostSlots]
    exact ⟨crq, fun ⟨n, sending⟩ => some ⟨n, List.mem_finRange n, sending⟩⟩

/-- What the end of a connection does to the CRQ and to Notice Lost, by the slots in SENDING and the job of P3. -/
theorem endConnection_notices (s : State) : let t := s.endConnection
    ((∀ n : Fin 4, s.tx.slots[n].state ≠ .sending) → s.arb.job3 ≠ .opened → t.crq = s.crq ∧ t.port = s.port)
    ∧ (∀ n : Fin 4, s.tx.slots[n].state = .sending → (∀ m : Fin 4, m ≠ n → s.tx.slots[m].state ≠ .sending) →
        s.crq.length ≤ 62 →
        (s.arb.job3 ≠ .opened → t.crq = s.crq ++ [.notice (.slotDone n .lineLost)])
        ∧ (s.arb.job3 = .opened →
            t.crq = s.crq ++ [.notice (.slotDone n .lineLost), .notice (.jobEvent .p3 .missingLast)])
        ∧ namesCause t.port.causes .noticeLost = namesCause s.port.causes .noticeLost)
    ∧ (∀ n : Fin 4, s.tx.slots[n].state = .sending → (∀ m : Fin 4, m ≠ n → s.tx.slots[m].state ≠ .sending) →
        s.crq.length = 63 →
        t.crq = s.crq ++ [.notice (.slotDone n .lineLost)]
        ∧ (s.arb.job3 ≠ .opened → namesCause t.port.causes .noticeLost = namesCause s.port.causes .noticeLost)
        ∧ (s.arb.job3 = .opened → namesCause t.port.causes .noticeLost = true))
    ∧ ((∀ n : Fin 4, s.tx.slots[n].state ≠ .sending) → s.arb.job3 = .opened → s.crq.length < 64 →
        t.crq = s.crq ++ [.notice (.jobEvent .p3 .missingLast)]
        ∧ namesCause t.port.causes .noticeLost = namesCause s.port.causes .noticeLost)
    ∧ (64 ≤ s.crq.length → t.crq = s.crq
        ∧ ((∃ n : Fin 4, s.tx.slots[n].state = .sending) ∨ s.arb.job3 = .opened →
            namesCause t.port.causes .noticeLost = true)) := by
  intro t
  have none (h : ∀ n : Fin 4, s.tx.slots[n].state ≠ .sending) : s.quietLine.lostSlots = s.quietLine := lostSlots_of_none h
  obtain ⟨one, full⟩ := lostSlots_notices s.quietLine
  have job : s.quietLine.lostSlots.arb.job3 = s.arb.job3 := congrArg Arbiter.job3 (lostSlots_arb _)
  have result : t = s.quietLine.lostSlots.missingLast := endConnection_eq s
  -- from here on the state after the lost slots is known by these facts alone
  generalize s.quietLine.lostSlots = v at none one full job result
  clear_value t
  subst result
  have closed (h : s.arb.job3 ≠ .opened) : v.missingLast = v := missingLast_of_not_open (job ▸ h)
  refine ⟨fun quiet h => ?_, fun n sending others room => ?_, fun n sending others last => ?_, fun quiet opened room => ?_,
    fun noRoom => ?_⟩
  · rw [closed h, none quiet]
    exact ⟨rfl, rfl⟩
  · obtain ⟨crq, port⟩ := one n sending others (Nat.lt_of_le_of_lt room (by decide))
    have crq : v.crq = s.crq ++ [.notice (.slotDone n .lineLost)] := crq
    have port : v.port = s.port := port
    by_cases opened : s.arb.job3 = .opened
    · obtain ⟨crq', lost⟩ := missingLast_crq_of_room (job.trans opened) (by rw [crq, List.length_append, List.length_singleton]; omega)
      rw [crq', lost, crq, port, List.append_assoc]
      exact ⟨fun h => absurd opened h, fun _ => rfl, rfl⟩
    · rw [closed opened, crq, port]
      exact ⟨fun _ => rfl, fun h => absurd h opened, rfl⟩
  · obtain ⟨crq, port⟩ := one n sending others (Nat.lt_of_le_of_lt (Nat.le_of_eq last) (by decide))
    have crq : v.crq = s.crq ++ [.notice (.slotDone n .lineLost)] := crq
    have port : v.port = s.port := port
    obtain ⟨crq', lost⟩ := missingLast_crq_of_full (s := v) (by rw [crq, List.length_append, List.length_singleton]; omega)
    exact ⟨crq'.trans crq, fun h => by rw [closed h, port], fun opened => lost (.inl (job.trans opened))⟩
  · have crq : v.crq = s.crq := by rw [none quiet]; rfl
    have port : v.port = s.port := by rw [none quiet]; rfl
    obtain ⟨crq', lost⟩ := missingLast_crq_of_room (job.trans opened) (by rw [crq]; exact room)
    rw [crq', lost, crq, port]
    exact ⟨rfl, rfl⟩
  · obtain ⟨crq, some⟩ := full noRoom
    have crq : v.crq = s.crq := crq
    obtain ⟨crq', lost⟩ := missingLast_crq_of_full (s := v) (by rw [crq]; exact noRoom)
    exact ⟨crq'.trans crq, fun h => lost (h.symm.imp job.trans some)⟩

/-! ## LINE ON and LINE OFF (R4, R12) -/

theorem takeCarrier_of_absent {s : State} (absent : s.pins.carrier = false) : s.takeCarrier = s := by
  simp [State.takeCarrier, absent]

theorem takeCarrier_of_present {s : State} (listen : s.line.state = .listen) (present : s.pins.carrier = true) :
    s.takeCarrier = (s.setLine { s.line with
      state := .qualify, timers := { s.line.timers with qualify := some s.now, dropout := none } }).wake .carrier := by
  simp [State.takeCarrier, listen, present]

theorem endConnection_slots (s : State) (n : Fin 4) : s.endConnection.tx.slots[n] = s.tx.slots[n].lineLost := by
  obtain ⟨arb, crq, causes, missing⟩ := missingLast_frame s.quietLine.lostSlots
  rw [endConnection_eq, missing, setPort_tx, setCrq_tx, setArb_tx, lostSlots_slots]
  rfl

theorem endConnection_jobError (s : State) : namesCause s.endConnection.port.causes .jobError
    = (namesCause s.port.causes .jobError || s.arb.job3 == .opened) := by
  rw [endConnection_eq, missingLast_jobError, lostSlots_arb, State.lostSlots, foldl_loseSlot_causes (by decide)]
  rfl

theorem endConnection_causes (s : State) {c : Cause} (lost : c ≠ .noticeLost) (error : c ≠ .jobError) :
    namesCause s.endConnection.port.causes c = namesCause s.port.causes c := by
  rw [endConnection_eq, missingLast_causes _ lost error, State.lostSlots, foldl_loseSlot_causes lost]
  rfl

theorem endConnection_arb_of_not_open {s : State} (closed : s.arb.job3 ≠ .opened) : s.endConnection.arb = s.arb := by
  rw [endConnection_eq, missingLast_of_not_open (by rw [lostSlots_arb]; exact closed), lostSlots_arb]
  rfl

theorem endConnection_arb_of_open {s : State} (opened : s.arb.job3 = .opened) :
    s.endConnection.arb = s.arb.lastMissing s.now := by
  rw [endConnection_eq, missingLast_arb_of_open (by rw [lostSlots_arb]; exact opened), lostSlots_arb, lostSlots_now]
  rfl

theorem endConnection_arb_frame (s : State) : s.endConnection.arb.hold = s.arb.hold ∧ s.endConnection.arb.p2 = s.arb.p2
    ∧ s.endConnection.arb.job2 = s.arb.job2 := by
  have frame := missingLast_arb_frame s.quietLine.lostSlots
  rw [lostSlots_arb] at frame
  rw [endConnection_eq]
  exact frame

/-- The engine and the transmitter at the end of a connection, but for the slots. -/
theorem endConnection_rest (s : State) : let t := s.endConnection
    t.engine = { s.engine with rx := .text, record := {}, gap := none, reply := none }
    ∧ { t.tx with slots := s.tx.slots } = { s.tx with progress := .idle, breakPending := false, flow := .flowing }
    ∧ t.keys = s.keys ∧ t.store = s.store ∧ t.rtq = s.rtq ∧ t.comp = s.comp ∧ t.head = s.head ∧ t.mon = s.mon := by
  obtain ⟨_, _, _, _, frame⟩ := endConnection_frame s
  rw [frame]
  simp [State.quietLine, State.dropRecord, State.clearTrim]

theorem endConnection_line (s : State) : s.endConnection.line = { s.line with trim := none } := by
  obtain ⟨_, _, _, _, frame⟩ := endConnection_frame s
  rw [frame]
  rfl

/-- Settles O18: the end of a connection is the line gone quiet, the slots in SENDING lost, and Missing-Last handling. -/
theorem lineOnAndOffMoveTheLine : Obligations.LineOnAndOffMoveTheLine := by
  refine ⟨fun p s short => ?on, fun p s short => ?off,
    fun s n => ⟨fun room => post_of_room room n, fun full => post_of_full full n⟩,
    fun s c => ⟨rfl, namesCause_raise_same s c, fun d other => namesCause_raise_of_ne other s⟩, fun s => ?ends⟩
  case on =>
    intro w
    refine ⟨fun on => ?_, fun off absent => ?_, fun off present => ?_⟩
    · have same : w.lineOn = w := if_neg (by rwa [wake_line])
      exact completes_of_portBody (c := .lineOn p) rfl (Nat.zero_le _) short (by rw [same]; rfl)
    · have moved : w.lineOn = w.setLine { w.line with state := .listen, timers := {} } :=
        (if_pos (by rwa [wake_line])).trans (takeCarrier_of_absent (by rwa [setLine_pins, wake_carrier]))
      exact completes_of_portBody (c := .lineOn p) rfl (Nat.zero_le _) short (by rw [moved]; rfl)
    · have moved : w.lineOn = w.setLine { w.line with state := .qualify, timers := { qualify := some w.now } } := by
        refine (if_pos (by rwa [wake_line])).trans ((takeCarrier_of_present rfl (by rwa [setLine_pins, wake_carrier])).trans ?_)
        exact wake_of_run (by rw [setLine_mon, setLine_mon, wake_power]) _
      exact completes_of_portBody (c := .lineOn p) rfl (Nat.zero_le _) short (by rw [moved]; rfl)
  case off =>
    intro w
    refine ⟨fun off => ?_, fun on => ?_⟩
    · have same : w.lineOff = w := if_pos (by rwa [wake_line])
      exact completes_of_portBody (c := .lineOff p) rfl (Nat.zero_le _) short (by rw [same]; rfl)
    · have left : w.lineOff = (w.setLine (w.line.leave .off)).endConnection.post (.lineState .off w.line.settings.speed) := by
        rw [State.lineOff, if_neg (by rwa [wake_line]), State.postLineState, endConnection_line]
        rfl
      exact completes_of_portBody (c := .lineOff p) rfl (Nat.zero_le _) short (by rw [left]; rfl)
  case ends =>
    have slots := endConnection_slots s
    have notices := endConnection_notices s
    have error := endConnection_jobError s
    have causes (c : Cause) := endConnection_causes s (c := c)
    have closed := endConnection_arb_of_not_open (s := s)
    have opens := endConnection_arb_of_open (s := s)
    have line := endConnection_line s
    obtain ⟨hold, p2, job2⟩ := endConnection_arb_frame s
    obtain ⟨engine, tx, keys, store, rtq, comp, head, mon⟩ := endConnection_rest s
    generalize s.endConnection = u at *
    obtain ⟨noNotice, room, last, missing, full⟩ := notices
    have named (opened : s.arb.job3 = .opened) : namesCause u.port.causes .jobError = true := by
      rw [error, opened]
      exact Bool.or_true _
    intro t
    have engineIs {α : Type} (f : Engine → α) := congrArg f engine
    have txIs {α : Type} (f : Transmitter → α) := congrArg f tx
    refine ⟨engineIs Engine.rx, engineIs Engine.record, engineIs Engine.gap, engineIs Engine.reply, engineIs Engine.counts,
      engineIs Engine.filters, engineIs Engine.masks, txIs Transmitter.progress, txIs Transmitter.breakPending,
      txIs Transmitter.flow, txIs Transmitter.ttq, ?sending, ?notSending, noNotice, room, last, missing, full,
      error, causes, closed, ?space, ?noSpace, line, keys, store, rtq, comp, head, mon, hold, p2, job2⟩
    case sending => exact fun n sending => (slots n).trans (if_pos sending)
    case notSending => exact fun n other => (slots n).trans (if_neg other)
    case space =>
      intro opened space
      have arb := (opens opened).trans (lastMissing_of_room space s.now)
      exact ⟨congrArg Arbiter.job3 arb, congrArg (fun a => a.p3.cells) arb, named opened⟩
    case noSpace =>
      intro opened noSpace
      have arb := (opens opened).trans (lastMissing_of_full noSpace s.now)
      exact ⟨congrArg Arbiter.job3 arb, congrArg (fun a => a.p3) arb, named opened⟩

/-! ## The carrier (R5, R7, R8, R10, R18, R19) -/

theorem completes_carrierAppears {s : State} (absent : s.pins.carrier = false) :
    Completes .carrierAppears s (s.setCarrier true).carrierOn :=
  completes_of_event (c := .carrierAppears) (f := fun s => (s.setCarrier true).carrierOn) rfl (by rw [absent]; rfl)

theorem completes_carrierEnds {s : State} (present : s.pins.carrier = true) :
    Completes .carrierEnds s (s.setCarrier false).carrierOff :=
  completes_of_event (c := .carrierEnds) (f := fun s => (s.setCarrier false).carrierOff) rfl present

theorem ownCarrier_iff (l : Line) : l.ownCarrier = true ↔
    (l.settings.speed = .sb300 ∧ l.settings.role = .answer ∧ l.state ≠ .off)
    ∨ (l.settings.speed = .sb300 ∧ l.settings.role = .originate ∧ (l.state = .online ∨ l.state = .fade))
    ∨ (l.settings.speed = .ta1200 ∧ l.state = .online
        ∧ (l.direction = some .taking ∨ l.direction = some .talking ∨ l.direction = some .releasing)) := by
  unfold Line.ownCarrier
  cases l.settings.speed with
  | sb300 => cases l.settings.role <;> cases l.state <;> simp
  | ta1200 =>
    cases l.state with
    | online =>
      cases l.direction with
      | none => simp
      | some d => cases d <;> simp
    | off | listen | qualify | fade => simp

/-- Settles O20: each line and direction state's case of `carrierOn` and `carrierOff`. -/
theorem carrierMovesTheLine : Obligations.CarrierMovesTheLine := by
  refine ⟨ownCarrier_iff, ⟨rfl, rfl, rfl, rfl, fun _ => ⟨rfl, rfl⟩⟩, fun s => ⟨fun present => ?_, fun absent => ?_, fun absent => ?on,
    fun present => ?off⟩⟩
  · exact congrArg _ (event_false s (by rw [present]; rfl) _)
  · exact congrArg _ (event_false s absent _)
  case on =>
    intro a
    have completes := completes_carrierAppears absent
    refine ⟨fun off => ?_, fun listen => ?_, fun qualify => ?_, fun fade => ?_, fun online speed => ?_, fun online speed => ?_⟩
    · rwa [State.carrierOn, show (s.setCarrier true).line.state = .off from off] at completes
    · rw [State.carrierOn, show (s.setCarrier true).line.state = .listen from listen] at completes
      dsimp only at completes
      rwa [takeCarrier_of_present (s := s.setCarrier true) listen rfl] at completes
    · rwa [State.carrierOn, show (s.setCarrier true).line.state = .qualify from qualify] at completes
    · rwa [State.carrierOn, show (s.setCarrier true).line.state = .fade from fade] at completes
    · rwa [State.carrierOn, show (s.setCarrier true).line.state = .online from online,
        show (s.setCarrier true).line.settings.speed = .sb300 from speed] at completes
    · rw [State.carrierOn, show (s.setCarrier true).line.state = .online from online,
        show (s.setCarrier true).line.settings.speed = .ta1200 from speed] at completes
      refine ⟨fun direction => ?_, fun direction => ?_, fun direction => ?_, fun direction => ?_⟩
      all_goals
        rwa [State.carrierInTurn, show (s.setCarrier true).line.direction = _ from direction] at completes
  case off =>
    intro a
    have completes := completes_carrierEnds present
    refine ⟨fun noLine => ?_, fun qualify => ?_, fun fade => ?_, fun online speed => ?_, fun online speed => ?_⟩
    · rcases noLine with off | listen
      · rwa [State.carrierOff, show (s.setCarrier false).line.state = .off from off] at completes
      · rwa [State.carrierOff, show (s.setCarrier false).line.state = .listen from listen] at completes
    · rwa [State.carrierOff, show (s.setCarrier false).line.state = .qualify from qualify] at completes
    · rwa [State.carrierOff, show (s.setCarrier false).line.state = .fade from fade] at completes
    · rwa [State.carrierOff, show (s.setCarrier false).line.state = .online from online,
        show (s.setCarrier false).line.settings.speed = .sb300 from speed] at completes
    · rw [State.carrierOff, show (s.setCarrier false).line.state = .online from online,
        show (s.setCarrier false).line.settings.speed = .ta1200 from speed] at completes
      dsimp only at completes
      refine ⟨fun listening => ?_, fun other => ?_⟩
      · rwa [if_pos (show (s.setCarrier false).line.direction = _ from listening)] at completes
      · rwa [if_neg (show ¬ (s.setCarrier false).line.direction = some .listening from other)] at completes

end Sys2Proof.Machine
end

section
/-!
SUPPORT. The timers of the line states and of the turns, what is work for the transmitter, and the expiry of a timer that does not run.
-/

namespace Sys2Proof.Machine

/-! ## The timers of the line states (R5 to R8, R10, R11) -/

theorem whenever_true {c : Bool} (holds : c = true) (due : Option Nat) : whenever c due = due := if_pos holds

theorem turned_iff (l : Line) (d : Direction) :
    l.turned d = true ↔ l.state = .online ∧ l.settings.speed = .ta1200 ∧ l.direction = some d := by
  simp [Line.turned, and_assoc]

theorem absenceTimer_eq (s : State) : s.absenceTimer = if s.pins.carrier then none else some s.now := rfl

theorem enterOnline_of_sb300 {s : State} (speed : s.line.settings.speed = .sb300) : s.enterOnline
    = ((s.setLine { s.line with state := .online, timers := { loss := s.absenceTimer } }).post (.lineState .online .sb300)).flowCompare := by
  simp [State.enterOnline, State.postLineState, speed]

theorem enterOnline_of_ta1200 {s : State} (speed : s.line.settings.speed = .ta1200) : s.enterOnline
    = ((s.setLine { s.line with
        state := .online, direction := some .listening, timers := { gap := s.absenceTimer, drop := s.absenceTimer } }).post
          (.lineState .online .ta1200)).flowCompare := by
  rw [State.enterOnline, speed]
  exact congrArg (fun x => State.flowCompare (State.post _ (.lineState .online x))) speed

theorem enterFade_eq (s : State) : s.enterFade
    = ((s.setEngine { s.engine with rx := .text, record := {}, gap := none }).setLine
        { s.line with state := .fade, timers := { drop := some s.now }, trim := none, held := false, inBreak := false }).post
          (.lineState .fade s.line.settings.speed) := rfl

/-- What the line's loss comes to before a carrier that is present qualifies. -/
def State.lineLost (s : State) : State :=
  (((s.setLine (s.line.leave .listen)).endConnection).raise .lineLost).post (.lineState .listen s.line.settings.speed)

theorem lineLost_line (s : State) : s.lineLost.line = s.line.leave .listen := by
  rw [State.lineLost, post_eq, setPort_line, setCrq_line, raise_eq, setPort_line, endConnection_line]
  rfl

theorem lineLost_pins (s : State) : s.lineLost.pins = s.pins := by
  obtain ⟨_, _, _, _, frame⟩ := endConnection_frame (s.setLine (s.line.leave .listen))
  rw [State.lineLost, post_eq, setPort_pins, setCrq_pins, raise_eq, setPort_pins]
  rw [frame, setPort_pins, setCrq_pins, setArb_pins, setTx_pins]
  simp only [State.quietLine, State.dropRecord, State.clearTrim, setTx_pins, setEngine_pins, setLine_pins]

theorem loseLine_eq (s : State) : s.loseLine = if s.pins.carrier then
      (s.lineLost.setLine { s.lineLost.line with
        state := .qualify, timers := { s.lineLost.line.timers with qualify := some s.lineLost.now, dropout := none } }).wake .carrier
    else s.lineLost := by
  have listen : s.lineLost.line.state = .listen := by rw [lineLost_line]; rfl
  rw [show s.loseLine = s.lineLost.takeCarrier from rfl]
  split
  · next present => exact takeCarrier_of_present listen ((congrArg Pins.carrier (lineLost_pins s)).trans present)
  · next absent => exact takeCarrier_of_absent ((congrArg Pins.carrier (lineLost_pins s)).trans (by simpa using absent))

section Due
variable {s : State} {start : Nat}

theorem qualifyDue_of (state : s.line.state = .qualify) (timer : s.line.timers.qualify = some start) :
    s.qualifyDue = some (start + 3000 * s.line.settings.qualifyMs) := by
  simp [State.qualifyDue, whenever, after, state, timer, Config.unitsPerMs, Nat.mul_comm]

theorem dropoutDue_of (state : s.line.state = .qualify) (timer : s.line.timers.dropout = some start) :
    s.dropoutDue = some (start + 60000) := by
  simp [State.dropoutDue, whenever, after, state, timer, Config.carrierSettle, Config.unitsPerMs]

theorem lossDue_of (state : s.line.state = .online) (speed : s.line.settings.speed = .sb300)
    (timer : s.line.timers.loss = some start) : s.lossDue = some (start + 3000 * s.line.settings.lossMs) := by
  simp [State.lossDue, whenever, after, state, speed, timer, Config.unitsPerMs, Nat.mul_comm]

theorem returnDue_of (state : s.line.state = .fade) (timer : s.line.timers.back = some start) :
    s.returnDue = some (start + 60000) := by
  simp [State.returnDue, whenever, after, state, timer, Config.carrierSettle, Config.unitsPerMs]

theorem fadeDropDue_of (state : s.line.state = .fade) (timer : s.line.timers.drop = some start) :
    s.fadeDropDue = some (start + 3000 * s.line.settings.dropMs) := by
  simp [State.fadeDropDue, whenever, after, state, timer, Config.unitsPerMs, Nat.mul_comm]

theorem turnDropDue_of (turned : s.line.turned .listening = true) (timer : s.line.timers.drop = some start) :
    s.turnDropDue = some (start + 3000 * s.line.settings.dropMs) := by
  simp [State.turnDropDue, whenever, after, turned, timer, Config.unitsPerMs, Nat.mul_comm]

theorem gapDue_of (turned : s.line.turned .listening = true) (timer : s.line.timers.gap = some start) :
    s.gapDue = some (start + 3000 * s.line.settings.gapMs) := by
  simp [State.gapDue, whenever, after, turned, timer, Config.unitsPerMs, Nat.mul_comm]

theorem leadInDue_of (turned : s.line.turned .taking = true) (timer : s.line.timers.leadIn = some start) :
    s.leadInDue = some (start + 120000) := by
  simp [State.leadInDue, whenever, after, turned, timer, Config.leadIn, Config.unitsPerMs]

theorem talkDue_of (turned : s.line.turned .talking = true) (timer : s.line.timers.talk = some start) :
    s.talkDue = some (start + 3000 * s.line.settings.talkMs + 1) := by
  simp [State.talkDue, whenever, after, turned, timer, Config.unitsPerMs, Nat.mul_comm, Nat.add_assoc]

theorem tailDue_of (turned : s.line.turned .releasing = true) (timer : s.line.timers.tail = some start) :
    s.tailDue = some (start + 60000) := by
  simp [State.tailDue, whenever, after, turned, timer, Config.tail, Config.unitsPerMs]

end Due

/-- Settles O21: each expiry's moment, and its effect at that moment. -/
theorem carrierTimersMoveTheLine : Obligations.CarrierTimersMoveTheLine := by
  refine ⟨fun s start => ⟨fun state timer => ?qualify, fun state timer => ?dropout, fun state speed timer => ?loss,
    fun state timer => ?back⟩, fun s start timer => ?drop⟩
  case qualify =>
    intro u
    have completes : Completes .qualifyTimeExpiry s u.enterOnline := completes_of_expiry (f := State.enterOnline) rfl (qualifyDue_of state timer)
    refine ⟨fun speed => ?_, fun speed => ?_⟩
    · rwa [enterOnline_of_sb300 (s := u) speed] at completes
    · rwa [enterOnline_of_ta1200 (s := u) speed] at completes
  case dropout => exact completes_of_expiry (c := .qualifyDropoutExpiry) (f := State.backToListen) rfl (dropoutDue_of state timer)
  case loss =>
    intro u
    have completes : Completes .lossDelayExpiry s u.enterFade := completes_of_expiry (f := State.enterFade) rfl (lossDue_of state speed timer)
    rwa [enterFade_eq, show u.line.settings.speed = .sb300 from speed] at completes
  case back => exact completes_of_expiry (c := .fadeReturn) (f := State.fadeBack) rfl (returnDue_of state timer)
  case drop =>
    intro u lost after
    have lostIs : u.lineLost = lost := rfl
    have result : u.loseLine = after := by
      rw [loseLine_eq, lostIs]
      rfl
    refine ⟨fun fade => ?_, fun online speed listening => ?_⟩
    · exact result ▸ completes_of_expiry (c := .fadeDropExpiry) (f := State.loseLine) rfl (fadeDropDue_of fade timer)
    · have turned : s.line.turned .listening = true := (turned_iff ..).mpr ⟨online, speed, listening⟩
      exact result ▸ completes_of_expiry (c := .ta1200DropExpiry) (f := State.loseLine) rfl (turnDropDue_of turned timer)

/-! ## Turns of TA1200 (R13, R18, R19) -/

theorem hasWork_iff (s : State) : s.hasWork = true ↔
    s.tx.flow = .holdPending ∨ s.tx.flow = .resumePending ∨ s.tx.breakPending = true ∨ s.engine.reply ≠ none
    ∨ (s.line.settings.format = .f8N1 ∧ ∃ n : Fin 4, s.tx.slots[n].state = .requested)
    ∨ s.tx.ttq ≠ [] ∨ ∃ source items pos start, s.tx.progress = .record source items pos start := by
  have requested : s.tx.slots.toList.any (fun x => x.state == .requested) = true ↔ ∃ n : Fin 4, s.tx.slots[n].state = .requested := by
    simp [Vector.any_eq_true, Fin.exists_iff]
  have reply : s.engine.reply.isSome = true ↔ s.engine.reply ≠ none := by simp [Option.isSome_iff_ne_none]
  simp only [State.hasWork, Bool.or_eq_true, Bool.and_eq_true, beq_iff_eq, requested, reply, or_assoc]
  cases s.tx.progress <;> simp

theorem elapsed_iff (s : State) (start : Option Nat) (d : Nat) :
    s.elapsed start d = true ↔ ∃ t, start = some t ∧ t + d ≤ s.now := by
  cases start <;> simp [State.elapsed]

theorem gapReached_iff (s : State) : s.gapReached = true ↔
    ∃ start, s.line.timers.gap = some start ∧ start + 3000 * s.line.settings.gapMs ≤ s.now := by
  simp [State.gapReached, elapsed_iff, Config.unitsPerMs, Nat.mul_comm]

theorem talkPassed_iff (s : State) : s.talkPassed = true ↔
    ∃ start, s.line.timers.talk = some start ∧ start + 3000 * s.line.settings.talkMs < s.now := by
  rw [State.talkPassed, elapsed_iff, Nat.mul_comm]
  rfl

section TxAct
variable {s : State} (online : s.line.state = .online) (speed : s.line.settings.speed = .ta1200)
include online speed

theorem txAct_of_listening (listening : s.line.direction = some .listening) :
    s.txAct = if s.hasWork && !s.pins.carrier && s.gapReached then some .take else none := by
  simp [State.txAct, online, speed, listening]

/-- In TALKING the release goes before the choice of an item. -/
theorem txAct_of_talking (talking : s.line.direction = some .talking) :
    s.txAct = some .release ↔ s.tx.progress = .idle ∧ (s.hasWork = false ∨ s.talkPassed = true) := by
  by_cases releases : s.tx.progress = .idle ∧ (s.hasWork = false ∨ s.talkPassed = true)
  · simp [State.txAct, online, speed, talking, releases]
  · rw [State.txAct, if_pos online, if_neg (by simp [talking]), if_neg (by simpa [speed, talking] using releases)]
    simp only [releases, iff_false]
    split
    · split
      · simp
      · split
        · cases s.source <;> simp
        · simp
    · simp

theorem txAct_of_turning (turning : s.line.direction = some .taking ∨ s.line.direction = some .releasing) : s.txAct = none := by
  rcases turning with taking | releasing
  · simp [State.txAct, Line.mayBegin, online, speed, taking]
  · simp [State.txAct, Line.mayBegin, online, speed, releasing]

end TxAct

/-- Settles O23: the moments of the turns, the work, and the acts that turn the line. -/
theorem turnsOfTheLine : Obligations.TurnsOfTheLine := by
  refine ⟨fun s start online speed => ⟨fun listening timer => ?_, fun taking timer => ?_, fun talking timer => ?_,
    fun releasing timer => ?_⟩, hasWork_iff, fun s online speed => ⟨fun listening => ?_, fun talking => ?_,
    txAct_of_turning online speed, rfl, fun absent => ?_, fun present => ?_⟩⟩
  · exact completes_of_expiry (c := .turnaroundGapExpiry) (f := id) rfl (gapDue_of ((turned_iff ..).mpr ⟨online, speed, listening⟩) timer)
  · exact completes_of_expiry (c := .leadInEnd) (f := State.enterTalking) rfl (leadInDue_of ((turned_iff ..).mpr ⟨online, speed, taking⟩) timer)
  · exact completes_of_expiry (c := .talkLimitExpiry) (f := id) rfl (talkDue_of ((turned_iff ..).mpr ⟨online, speed, talking⟩) timer)
  · exact completes_of_expiry (c := .tailEnd) (f := State.toListening) rfl (tailDue_of ((turned_iff ..).mpr ⟨online, speed, releasing⟩) timer)
  · rw [txAct_of_listening online speed listening, ← gapReached_iff]
    simp [and_assoc]
  · rw [txAct_of_talking online speed talking, talkPassed_iff]
  · exact if_neg (by simp [absent])
  · exact (if_pos present).trans (by simp [State.toListening, absenceTimer_eq, present])

/-! ## A timer that does not run (log 3) -/

/-- Settles O24: each expiry's command is the expiry of its timer. -/
theorem noTimerNoExpiry : Obligations.NoTimerNoExpiry := by
  intro s
  have quiet {due : Option Nat} (f : State → State) (off : due = none) : Host.Outcome.next (s.expiry due f) = (.next s : Out) :=
    congrArg _ (expiry_none s off f)
  exact ⟨quiet _, quiet _, quiet _, quiet _, quiet _, quiet _, quiet _, quiet _, quiet _, quiet _, quiet _, quiet _, quiet _,
    quiet _, fun _ => quiet _, quiet _, quiet _, quiet _, quiet _, fun _ => quiet _⟩

end Sys2Proof.Machine
end

section
/-!
SUPPORT. RESET UNIT, block by block and scope by scope (R20, R43, R60, R79, R130, R141, R157, R175); the packing of READ QUEUE (R171) and the encodings of the CRQ's entries (section 12.5).
-/

namespace Sys2Proof.Machine
open Sys2Proof.Laws

/-! ## The line scope (R20, R43, R60, R126) -/

/-- The line scope before its Missing-Last handling. -/
def State.lineCleared (s : State) : State :=
  ((s.setLine { s.line.leave .off with collisions := 0 }).setEngine
    { s.engine with rx := .text, record := {}, gap := none, reply := none }).setTx
      { s.tx with progress := .idle, breakPending := false, flow := .flowing, ttq := [], slots := s.tx.slots.map Slot.lineReset }

theorem resetLine_eq (s : State) : s.resetLine = s.lineCleared.missingLast := rfl

theorem lineCleared_arb (s : State) : s.lineCleared.arb = s.arb := rfl
theorem lineCleared_crq (s : State) : s.lineCleared.crq = s.crq := rfl
theorem lineCleared_now (s : State) : s.lineCleared.now = s.now := rfl
theorem lineCleared_port (s : State) : s.lineCleared.port = s.port := by simp [State.lineCleared]

/-- Its line, engine and transmitter apart, the line scope changes the Arbiter, the CRQ and the causes alone. -/
theorem resetLine_frame (s : State) : ∃ arb crq causes,
    s.resetLine = ((s.lineCleared.setArb arb).setCrq crq).setPort { s.port with causes := causes } := by
  obtain ⟨arb, crq, causes, missing⟩ := missingLast_frame s.lineCleared
  exact ⟨arb, crq, causes, by rw [resetLine_eq, missing, lineCleared_port]⟩

theorem resetLine_blocks (s : State) : let t := s.resetLine
    t.line = { s.line.leave .off with collisions := 0 }
    ∧ t.engine = { s.engine with rx := .text, record := {}, gap := none, reply := none }
    ∧ t.tx = { s.tx with progress := .idle, breakPending := false, flow := .flowing, ttq := []
                         slots := s.tx.slots.map Slot.lineReset }
    ∧ t.keys = s.keys ∧ t.store = s.store ∧ t.rtq = s.rtq ∧ t.comp = s.comp ∧ t.head = s.head ∧ t.mon = s.mon := by
  obtain ⟨_, _, _, frame⟩ := resetLine_frame s
  rw [frame]
  simp [State.lineCleared]

theorem lineReset_of_active {x : Slot} (active : x.state = .requested ∨ x.state = .sending) :
    x.lineReset = { x with state := .aborted, abortNoted := false } := if_pos (by simpa using active)

theorem lineReset_of_other {x : Slot} (notRequested : x.state ≠ .requested) (notSending : x.state ≠ .sending) :
    x.lineReset = x := if_neg (by simp [notRequested, notSending])

/-- Where no job of P3 is OPEN there is no Missing-Last handling. -/
theorem resetLine_of_not_open {s : State} (notOpen : s.arb.job3 ≠ .opened) : let t := s.resetLine
    t.arb = s.arb ∧ t.crq = s.crq ∧ t.port = s.port := by
  have same : s.resetLine = s.lineCleared := missingLast_of_not_open (s := s.lineCleared) notOpen
  rw [same]
  exact ⟨rfl, rfl, lineCleared_port s⟩

theorem resetLine_of_open {s : State} (opened : s.arb.job3 = .opened) : let t := s.resetLine
    namesCause t.port.causes .jobError = true ∧ t.arb = s.arb.lastMissing s.now
    ∧ (s.crq.length < 64 → t.crq = s.crq ++ [.notice (.jobEvent .p3 .missingLast)])
    ∧ (64 ≤ s.crq.length → t.crq = s.crq ∧ namesCause t.port.causes .noticeLost = true) := by
  have opened' : s.lineCleared.arb.job3 = .opened := opened
  have error := missingLast_jobError s.lineCleared
  have arb := missingLast_arb_of_open opened'
  have room := missingLast_crq_of_room opened'
  have full := missingLast_crq_of_full (s := s.lineCleared)
  rw [opened'] at error full
  rw [lineCleared_arb, lineCleared_now] at arb
  rw [lineCleared_crq] at room full
  rw [resetLine_eq]
  exact ⟨error.trans (Bool.or_true _), arb, fun free => (room free).1, fun noRoom => ⟨(full noRoom).1, (full noRoom).2 (.inl rfl)⟩⟩

theorem resetLine_port (s : State) : s.resetLine.port.mask = s.port.mask ∧ ∀ {c : Cause}, c ≠ .noticeLost → c ≠ .jobError →
    namesCause s.resetLine.port.causes c = namesCause s.port.causes c := by
  refine ⟨?_, fun lost error => (missingLast_causes s.lineCleared lost error).trans (by rw [lineCleared_port])⟩
  obtain ⟨_, _, _, frame⟩ := resetLine_frame s
  rw [frame, setPort_port]

theorem getElem_map_fin {α β : Type} {k : Nat} (v : Vector α k) (f : α → β) (n : Fin k) : (v.map f)[n] = f v[n] := by
  simp

/-- What Missing-Last handling leaves of the Arbiter's settings. -/
theorem missingLast_arb_settings (s : State) : s.missingLast.arb.lastGranted = s.arb.lastGranted
    ∧ s.missingLast.arb.settings = s.arb.settings := by
  by_cases job : s.arb.job3 = .opened
  · rw [missingLast_arb_of_open job, Arbiter.lastMissing]
    split <;> exact ⟨rfl, rfl⟩
  · rw [missingLast_of_not_open job]
    exact ⟨rfl, rfl⟩

/-! ## The print scope (R130, R141, R157) -/

/-- The Head Drive after a reset of the print path. -/
def Head.reset (h : Head) : Head :=
  match h.state with
  | .firing => { h with clearAtEnd := true }
  | .advancing =>
    { h with clearAtEnd := true
             inHand := match h.inHand with
              | .feed _ => .feed 1
              | .none => .none
              | .dots row => .dots row }
  | .idle | .hold | .settle => { h with inHand := .none, history := 0, idleSince := none }

theorem resetHead_eq (s : State) : s.resetHead = s.setHead s.head.reset := by
  cases state : s.head.state with
  | advancing => cases inHand : s.head.inHand <;> simp [State.resetHead, Head.reset, state, inHand]
  | firing | idle | hold | settle => simp [State.resetHead, Head.reset, state]

theorem headReset_of_firing {h : Head} (firing : h.state = .firing) : h.reset = { h with clearAtEnd := true } := by
  rw [Head.reset, firing]

theorem headReset_of_advancing {h : Head} (advancing : h.state = .advancing) :
    (∀ n, h.inHand = .feed n → h.reset = { h with clearAtEnd := true, inHand := .feed 1 })
    ∧ ((∀ n, h.inHand ≠ .feed n) → h.reset = { h with clearAtEnd := true }) := by
  rw [Head.reset, advancing]
  refine ⟨fun n feed => by rw [feed], fun other => ?_⟩
  cases inHand : h.inHand with
  | feed n => exact absurd inHand (other n)
  | none | dots row => simp only [← inHand]

theorem headReset_of_resting {h : Head} (resting : h.state = .idle ∨ h.state = .hold ∨ h.state = .settle) :
    h.reset = { h with inHand := .none, history := 0, idleSince := none } := by
  rcases resting with state | state | state <;> rw [Head.reset, state]

/-- The print scope leaves the row under way and the settings. -/
theorem headReset_frame (h : Head) : h.reset.state = h.state ∧ h.reset.row = h.row ∧ h.reset.speed = h.speed
    ∧ h.reset.dotLimit = h.dotLimit ∧ h.reset.settle = h.settle := by
  unfold Head.reset
  split <;> exact ⟨rfl, rfl, rfl, rfl, rfl⟩

theorem resetPrint_eq (s : State) : s.resetPrint = s.resetPrintPath.setHead s.head.reset := resetHead_eq _

theorem resetPrintPath_port (s : State) (q : PortId) : (s.resetPrintPath.arb.port q) = (s.arb.port q).empty := by cases q <;> rfl

/-! ## The keyboard scope (R79) -/

theorem getLsbD_or_bit (x : BitVec 96) (key k : Fin 96) :
    (x ||| (1#96 <<< key.val)).getLsbD k.val = (x.getLsbD k.val || decide (key = k)) := by
  have hk := k.isLt
  simp only [BitVec.getLsbD_or, BitVec.getLsbD_shiftLeft, BitVec.getLsbD_one, hk, decide_true, Bool.true_and]
  congr 1
  rw [Bool.eq_iff_iff]
  simp [Fin.ext_iff]
  omega

/-- A fold that sets the bit of each key that has a property. -/
theorem getLsbD_foldl_mark (P : Fin 96 → Prop) [DecidablePred P] (l : List (Fin 96)) (acc : BitVec 96) (k : Fin 96) :
    (l.foldl (fun acc key => if P key then acc ||| (1#96 <<< key.val) else acc) acc).getLsbD k.val
      = (acc.getLsbD k.val || (decide (k ∈ l) && decide (P k))) := by
  induction l generalizing acc with
  | nil => simp
  | cons key l ih =>
    have first : (if P key then acc ||| (1#96 <<< key.val) else acc).getLsbD k.val
        = (acc.getLsbD k.val || (decide (k = key) && decide (P k))) := by
      by_cases same : k = key
      · subst same
        by_cases marked : P k
        · rw [if_pos marked, getLsbD_or_bit]
          simp [marked]
        · simp [marked]
      · by_cases marked : P key
        · rw [if_pos marked, getLsbD_or_bit]
          simp [same, Ne.symm same]
        · simp [marked, same]
    rw [List.foldl_cons, ih, first, Bool.or_assoc, ← Bool.and_or_distrib_right]
    simp

theorem toAwait_getLsbD (kb : Keyboard) (k : Fin 96) : kb.toAwait.getLsbD k.val
    = (kb.isDown k || kb.awaiting.getLsbD k.val || decide (0 < kb.count k)) := by
  rw [Keyboard.toAwait, getLsbD_foldl_mark]
  rw [Bool.eq_iff_iff]
  simp [allKeys]

/-! ## RESET UNIT (R175) -/

theorem namesCause_allOnes (c : Cause) : namesCause (BitVec.allOnes 10) c = true := by
  cases c <;> decide

theorem resetScope?_of_past {b : Byte} (past : 4 ≤ b.toNat) : resetScope? b = none := by
  rw [resetScope?, if_neg (ne_of_past past (by decide)), if_neg (ne_of_past past (by decide)),
    if_neg (ne_of_past past (by decide)), if_neg (ne_of_past past (by decide))]

/-- The scope All before the causes are cleared. -/
def State.allReset (s : State) : State := ((s.resetLine.resetKeyboard.resetPrint).setRtq []).setCrq []

theorem allReset_eq (s : State) : s.allReset = ((((s.resetLine.setKeys s.resetLine.keys.reset).resetPrintPath.setHead
    s.resetLine.head.reset).setRtq []).setCrq []) := by
  rw [State.allReset, resetPrint_eq]
  rfl

theorem resetUnit_all_eq (s : State) : s.resetUnit .all = s.allReset.clearCauses (BitVec.allOnes 10) := rfl

/-- The scope All leaves a cause only where its condition lasts. -/
theorem namesCause_resetUnit_all (s : State) (c : Cause) : namesCause (s.resetUnit .all).port.causes c
    = (namesCause s.resetLine.port.causes c && namesCause s.mon.lasting c) := by
  obtain ⟨-, -, -, -, -, -, -, -, mon⟩ := resetLine_blocks s
  rw [resetUnit_all_eq, namesCause_clearCauses, namesCause_allOnes, allReset_eq, ← mon]
  simp [State.resetPrintPath]

theorem resetUnit_all_engine (s : State) : (s.resetUnit .all).engine
    = { s.engine with rx := .text, record := {}, gap := none, reply := none, counts := {} } := by
  obtain ⟨-, engine, -⟩ := resetLine_blocks s
  rw [resetUnit_all_eq, clearCauses_engine, namesCause_allOnes, if_pos rfl, allReset_eq]
  simp [State.resetPrintPath, engine]

theorem resetUnit_all_store (s : State) : (s.resetUnit .all).store = s.store.clearOverflow := by
  obtain ⟨-, -, -, -, store, -⟩ := resetLine_blocks s
  rw [resetUnit_all_eq, clearCauses_store, namesCause_allOnes, if_pos rfl, allReset_eq]
  simp [State.resetPrintPath, store]

/-- The blocks in which the scope All is the line, the keyboard and the print scope together. -/
theorem resetUnit_all_blocks (s : State) : let t := s.resetUnit .all
    t.rtq = [] ∧ t.crq = [] ∧ t.line = s.resetLine.line ∧ t.tx = s.resetLine.tx ∧ t.keys = s.keys.reset
    ∧ t.arb = s.resetLine.resetPrintPath.arb ∧ t.comp = { s.comp with line := none, rows := [] } ∧ t.head = s.head.reset
    ∧ t.mon = s.mon ∧ t.port.mask = s.port.mask := by
  obtain ⟨-, -, -, keys, -, -, comp, head, mon⟩ := resetLine_blocks s
  obtain ⟨mask, -⟩ := resetLine_port s
  rw [resetUnit_all_eq, clearCauses_eq, allReset_eq, ← keys, ← head, ← comp, ← mon, ← mask]
  simp [State.resetPrintPath]

/-- Settles O14: the line scope by its frame and its Missing-Last handling, the others block by block. -/
theorem resetUnitScopes : Obligations.ResetUnitScopes := by
  refine ⟨fun p s present short => ?scopes, fun s => ?line, fun s => ?keyboard, fun s => ?print, fun s => ?all⟩
  case scopes =>
    have takes {x : ResetScope} (scope : resetScope? (byteAt p 0) = some x) :
        Completes (.resetUnit p) s (((s.wake .command).resetUnit x).respond { result := .done }) :=
      completes_of_portBody rfl present short (field_some scope _ _)
    exact ⟨fun code => takes (by rw [code]; rfl), fun code => takes (by rw [code]; rfl), fun code => takes (by rw [code]; rfl),
      fun code => takes (by rw [code]; rfl),
      fun past => completes_of_portBody rfl present short (field_none (resetScope?_of_past past) _ _)⟩
  case line =>
    have closed := resetLine_of_not_open (s := s)
    have opens := resetLine_of_open (s := s)
    obtain ⟨line, engine, tx, keys, store, rtq, comp, head, mon⟩ := resetLine_blocks s
    have resetIs : s.resetUnit .line = s.resetLine := rfl
    rw [resetIs]
    generalize s.resetLine = t at *
    have lineIs {α : Type} (f : Line → α) := congrArg f line
    have engineIs {α : Type} (f : Engine → α) := congrArg f engine
    have txIs {α : Type} (f : Transmitter → α) := congrArg f tx
    have slots (n : Fin 4) : t.tx.slots[n] = s.tx.slots[n].lineReset := by rw [tx]; exact getElem_map_fin ..
    refine ⟨lineIs Line.state, lineIs Line.direction, lineIs Line.timers, lineIs Line.trim, lineIs Line.held, lineIs Line.inBreak,
      engineIs Engine.record, lineIs Line.collisions, lineIs Line.settings, engineIs Engine.rx, engineIs Engine.gap,
      engineIs Engine.reply, engineIs Engine.counts, engineIs Engine.filters, engineIs Engine.masks, engineIs Engine.default,
      txIs Transmitter.ttq, txIs Transmitter.progress, txIs Transmitter.breakPending, txIs Transmitter.flow,
      txIs Transmitter.flowSettings, fun n active => ?_, fun n notRequested notSending => ?_, keys, store, rtq, comp, head, mon,
      closed, fun opened => ?_⟩
    · exact (slots n).trans (lineReset_of_active active)
    · exact (slots n).trans (lineReset_of_other notRequested notSending)
    · obtain ⟨error, arb, room, full⟩ := opens opened
      exact ⟨error, fun space => arb.trans (lastMissing_of_room space s.now),
        fun noSpace => arb.trans (lastMissing_of_full noSpace s.now), room, full⟩
  case keyboard => exact ⟨rfl, rfl, rfl, rfl, rfl, rfl, toAwait_getLsbD s.keys, rfl, rfl, rfl⟩
  case print =>
    obtain ⟨state, row, speed, dotLimit, settle⟩ := headReset_frame s.head
    have blocks : s.resetUnit .print = s.resetPrintPath.setHead s.head.reset := resetPrint_eq s
    rw [blocks]
    refine ⟨fun q => ?_, rfl, rfl, rfl, rfl, rfl, rfl, rfl, rfl, rfl, rfl, state, row, speed, dotLimit, settle, fun resting => ?_,
      headReset_of_firing, headReset_of_advancing, rfl, rfl, rfl, rfl, rfl, rfl, rfl, rfl, rfl⟩
    · rw [setHead_arb, resetPrintPath_port]
      exact ⟨rfl, rfl, rfl, rfl⟩
    · rw [setHead_head, headReset_of_resting resting]
      exact ⟨rfl, rfl, rfl⟩
  case all =>
    have lineIs : s.resetUnit .line = s.resetLine := rfl
    have keysIs : (s.resetUnit .keyboard).keys = s.keys.reset := rfl
    have printIs : (s.resetUnit .print).head = s.head.reset := congrArg State.head (resetPrint_eq s)
    have arbIs : ((s.resetUnit .line).resetUnit .print).arb = s.resetLine.resetPrintPath.arb := by
      rw [← setHead_arb s.resetLine.resetPrintPath s.resetLine.head.reset, ← resetPrint_eq]
      rfl
    have causes := namesCause_resetUnit_all s
    have engine := resetUnit_all_engine s
    have store := resetUnit_all_store s
    obtain ⟨rtq, crq, line, tx, keys, arb, comp, head, mon, mask⟩ := resetUnit_all_blocks s
    obtain ⟨-, kept⟩ := resetLine_port s
    obtain ⟨lastGranted, settings⟩ := missingLast_arb_settings s.lineCleared
    rw [← resetLine_eq, lineCleared_arb] at lastGranted settings
    rw [lineIs] at arbIs
    rw [lineIs, keysIs, printIs, arbIs]
    have port (q : PortId) : (s.resetLine.resetPrintPath.arb.port q).cells = [] := by rw [resetPrintPath_port]; rfl
    generalize s.resetUnit .all = t at *
    have engineIs {α : Type} (f : Engine → α) := congrArg f engine
    have arbIs {α : Type} (f : Arbiter → α) := congrArg f arb
    have compIs {α : Type} (f : Composer → α) := congrArg f comp
    have storeIs {α : Type} (f : Store → α) := congrArg f store
    refine ⟨rtq, crq, line, tx, keys, engineIs Engine.rx, engineIs Engine.record, engineIs Engine.gap, engineIs Engine.reply,
      engineIs Engine.filters, engineIs Engine.masks, engineIs Engine.default, arb, fun q => by rw [arb]; exact port q,
      arbIs Arbiter.job2, arbIs Arbiter.job3, arbIs Arbiter.hold, arbIs Arbiter.stall, arbIs Arbiter.pause,
      (arbIs Arbiter.lastGranted).trans lastGranted, (arbIs Arbiter.settings).trans settings, compIs Composer.line,
      compIs Composer.rows, compIs Composer.settings, head, storeIs Store.softKeys, storeIs Store.glyphs, storeIs Store.energy,
      storeIs Store.remoteMask, fun c ofAnotherBlock => ?_, ?_, ?_, ?_, ?_, mask, mon, engineIs Engine.counts,
      fun n => by rw [store, route_clearOverflow]⟩
    · rw [causes, namesCause_lasting_of_other ofAnotherBlock, Bool.and_false]
    all_goals
      rw [causes, kept (by decide) (by decide), namesCause_lasting]
      simp

/-! ## READ QUEUE (R171, section 12.5) -/

/-- What is packed is the encodings of the first entries, no longer than the count and the room, and as long as they allow. -/
theorem packQueue_eq (n room : Nat) (es : List CrqEntry) : ∃ gone rest : List CrqEntry, es = gone ++ rest
    ∧ packQueue n room es = (gone.flatMap CrqEntry.encode, rest) ∧ gone.length ≤ n
    ∧ (gone.flatMap CrqEntry.encode).length ≤ room
    ∧ (gone.length = n ∨ rest = [] ∨ ∃ e more, rest = e :: more
        ∧ room < (gone.flatMap CrqEntry.encode).length + e.encode.length) := by
  induction n generalizing room es with
  | zero => exact ⟨[], es, rfl, rfl, Nat.le_refl _, Nat.zero_le _, .inl rfl⟩
  | succ n ih =>
    match es with
    | [] => exact ⟨[], [], rfl, rfl, Nat.zero_le _, Nat.zero_le _, .inr (.inl rfl)⟩
    | e :: es =>
      by_cases fits : e.encode.length ≤ room
      · obtain ⟨gone, rest, split, packed, count, bytes, most⟩ := ih (room - e.encode.length) es
        refine ⟨e :: gone, rest, by rw [split]; rfl, by rw [packQueue, if_pos fits, packed]; rfl, Nat.succ_le_succ count, ?_, ?_⟩
        · simp only [List.flatMap_cons, List.length_append]
          omega
        · refine most.imp (congrArg Nat.succ) (Or.imp_right ?_)
          rintro ⟨e', more, head, past⟩
          refine ⟨e', more, head, ?_⟩
          simp only [List.flatMap_cons, List.length_append]
          omega
      · refine ⟨[], e :: es, rfl, by rw [packQueue, if_neg fits]; rfl, Nat.zero_le _, Nat.zero_le _, .inr (.inr ⟨e, es, rfl, ?_⟩)⟩
        simp only [List.flatMap_nil, List.length_nil]
        omega

theorem queueCount_eq (b : Byte) : queueCount b = max 1 (min 8 b.toNat) := by
  simp only [queueCount, clamp]

/-- The route and the mark of a Character entry stand in one byte. -/
theorem characterByte_fields (r : Fin 16) (substituted : Bool) (b : Byte)
    (is : b = BitVec.ofNat 8 (r.val + if substituted then 128 else 0)) :
    b.toNat % 16 = r.val ∧ b.getLsbD 7 = substituted ∧ ∀ i ∈ [4, 5, 6], b.getLsbD i = false := by
  subst is
  revert r substituted
  decide

/-- Settles O10: the packing by induction on the count, the encodings by their tables. -/
theorem readQueueRemovesWholeEntries : Obligations.ReadQueueRemovesWholeEntries := by
  refine ⟨fun p s present short => ?queue, fun r code substituted => ?character, fun _ _ => rfl, fun k l listed => ?key,
    fun x listed m listed' => ?lineState, fun n o listed => ?slotDone, fun q listed e listed' => ?jobEvent, fun kind r f => ?accepted,
    fun _ _ => rfl, rfl, fun c listed => ?wake⟩
  case queue =>
    obtain ⟨gone, rest, split, packed, count, bytes, most⟩ := packQueue_eq (queueCount (byteAt p 0)) 72 (s.wake .command).crq
    rw [queueCount_eq] at count most
    refine ⟨gone, rest, split, count, bytes, most, ?_⟩
    refine completes_of_portBody (c := .readQueue p) rfl present short ?_
    rw [readQueueBody, packed]
    rfl
  case character => exact ⟨_, rfl, characterByte_fields r substituted _ rfl⟩
  case key =>
    revert l
    simp [CrqEntry.encode, Layer.code, Notice.bytes]
  case lineState =>
    revert x m
    simp [CrqEntry.encode, Notice.bytes, LineState.code, Speed.code]
  case slotDone =>
    revert o
    simp [CrqEntry.encode, Notice.bytes, SlotOutcome.code]
  case jobEvent =>
    revert q e
    simp [CrqEntry.encode, Notice.bytes, JobPort.code, JobEvent.code]
  case accepted => simp [CrqEntry.encode, Notice.bytes]
  case wake =>
    revert c
    simp [CrqEntry.encode, Notice.bytes, WakeCause.code]

end Sys2Proof.Machine
end

section
/-!
SUPPORT. The wake from Doze in full: the Head Drive under a comparison of the holds, the supply sample and the thermistor reading of that moment (R153, R154, R159 to R162, R166); which commands leave the part in Run.
-/

namespace Sys2Proof.Machine
open Sys2Proof.Laws

/-! ## A comparison of the holds (R153, R154) -/

/-- The Head Drive after a comparison: with a hold, IDLE and SETTLE go to HOLD; without one, HOLD goes to SETTLE. -/
def Head.followHolds (h : Head) (held : Bool) (now : Nat) : Head :=
  match held, h.state with
  | true, .idle => { h with state := .hold }
  | true, .settle => { h with state := .hold, settle := none }
  | false, .hold => { h with state := .settle, settle := some now }
  | _, _ => h

theorem syncHolds_head_eq (s : State) : s.syncHolds.head = s.head.followHolds s.mon.anyHold s.now := by
  unfold State.syncHolds Head.followHolds
  cases s.mon.anyHold <;> cases s.head.state <;> rfl

/-- In Run, at the moment of a sample, a comparison makes no sample and no reading owed. -/
theorem syncHolds_of_sampled {s : State} (run : s.mon.power = .run) (sampled : s.mon.lastSupply = s.now) :
    s.syncHolds = s.setHead (s.head.followHolds s.mon.anyHold s.now) := by
  have atSample : (s.mon.lastSupply != s.now) = false := by simp [sampled]
  have inRun : (s.mon.power == .doze) = false := by rw [run]; rfl
  have moves (x : HeadState) (h : Head) : ((s.setHead h).moveHead x) = s.setHead { h with state := x } := by
    simp only [State.moveHead, setHead_mon, setHead_now, setHead_head, atSample, inRun, Bool.and_false, Bool.false_and, Bool.or_false]
    rfl
  have moved (x : HeadState) : s.moveHead x = s.setHead { s.head with state := x } := moves x s.head
  unfold State.syncHolds Head.followHolds
  cases s.mon.anyHold <;> cases s.head.state <;> simp only [moves, moved, Bool.false_eq_true, if_true, if_false] <;> rfl

/-- The Head Drive with L replaced. -/
def Head.withLimit (h : Head) (limit : Nat) : Head := { h with limit := limit }

theorem withLimit_withLimit (h : Head) (a b : Nat) : (h.withLimit a).withLimit b = h.withLimit b := rfl

theorem withLimit_self (h : Head) : h.withLimit h.limit = h := rfl

theorem withLimit_dotLimit (h : Head) (limit : Nat) : (h.withLimit limit).dotLimit = h.dotLimit := rfl

theorem recomputeLimit_eq (s : State) :
    s.recomputeLimit = s.setHead (s.head.withLimit (dotLimitOf s.head.dotLimit s.mon.supply s.mon.fallback)) := rfl

theorem followHolds_withLimit (h : Head) (held : Bool) (now limit : Nat) :
    (h.withLimit limit).followHolds held now = (h.followHolds held now).withLimit limit := by
  cases held <;> cases state : h.state <;> simp [Head.followHolds, Head.withLimit, state]

theorem followHolds_followHolds (h : Head) (held : Bool) (now : Nat) :
    (h.followHolds held now).followHolds held now = h.followHolds held now := by
  cases held <;> cases state : h.state <;> simp [Head.followHolds, state]

theorem followHolds_keeps_limit (h : Head) (held : Bool) (now : Nat) : (h.followHolds held now).limit = h.limit := by
  unfold Head.followHolds
  split <;> rfl

theorem followHolds_dotLimit (h : Head) (held : Bool) (now : Nat) : (h.followHolds held now).dotLimit = h.dotLimit := by
  unfold Head.followHolds
  split <;> rfl

/-- While a row is under way the holds do not move the Head Drive. -/
theorem followHolds_of_row {h : Head} (row : h.state = .firing ∨ h.state = .advancing) (held : Bool) (now : Nat) :
    h.followHolds held now = h := by
  rcases row with state | state <;> cases held <;> simp [Head.followHolds, state]

theorem followHolds_free_of_resting {h : Head} (resting : h.state = .idle ∨ h.state = .settle) (now : Nat) :
    h.followHolds false now = h := by
  rcases resting with state | state <;> simp [Head.followHolds, state]

/-- Two comparisons, the second without a hold, take HOLD to SETTLE. -/
theorem followHolds_free_of_hold {h : Head} (state : h.state = .hold) (held : Bool) (now : Nat) :
    (h.followHolds held now).followHolds false now = { h with state := .settle, settle := some now } := by
  cases held <;> simp [Head.followHolds, state]

/-- Two comparisons, the second with a hold, leave a resting Head Drive in HOLD, its settle timer discarded where one ran in SETTLE. -/
theorem followHolds_held_of_resting {h : Head} (resting : h.state = .idle ∨ h.state = .settle ∨ h.state = .hold) (held : Bool)
    (now : Nat) : ((h.followHolds held now).followHolds true now).state = .hold
    ∧ (h.state = .settle ∨ h.settle = none → ((h.followHolds held now).followHolds true now).settle = none) := by
  rcases resting with state | state | state <;> cases held <;> simp +contextual [Head.followHolds, state]

/-! ## Causes raised by a condition -/

/-- The causes with one more where a condition holds. -/
def CtlPort.raisedIf (x : CtlPort) (arises : Bool) (c : Cause) : CtlPort :=
  if arises then { x with causes := x.causes ||| c.mask } else x

theorem raiseIf_eq (s : State) (arises : Bool) (c : Cause) : s.raiseIf arises c = s.setPort (s.port.raisedIf arises c) := by
  cases arises <;> rfl

theorem raisedIf_false (x : CtlPort) (c : Cause) : x.raisedIf false c = x := rfl

theorem namesCause_raisedIf (x : CtlPort) (arises : Bool) (c d : Cause) :
    namesCause (x.raisedIf arises c).causes d = (namesCause x.causes d || (arises && decide (d = c))) := by
  cases arises
  · simp [CtlPort.raisedIf]
  · have mask : namesCause c.mask d = decide (d = c) := by simpa using namesCause_mask_if true c d
    simp [CtlPort.raisedIf, namesCause_or, mask]

/-! ## The supply sample and the thermistor reading in Run (R159 to R162) -/

/-- The Monitor after a supply sample. -/
def Monitor.sampled (m : Monitor) (v now : Nat) : Monitor :=
  let m1 := { m with samples := { a := m.samples.b, b := m.samples.c, c := m.samples.d, d := v }, lastSupply := now
                     supplyOwed := false }
  { m1 with supplyHold := supplyHoldAfter m.supplyHold m1.supply }

theorem sampleSupply_of_run {s : State} (run : s.mon.power = .run) :
    let m := s.mon.sampled s.pins.supply.toNat s.now
    s.sampleSupply = ((s.setMon m).setPort (s.port.raisedIf (!s.mon.supplyHold && m.supplyHold) .supplyHold)).setHead
      ((s.head.followHolds m.anyHold s.now).withLimit (dotLimitOf s.head.dotLimit m.supply m.fallback)) := by
  intro m
  have compared : s.sampleSupply
      = (((s.setMon m).raiseIf (!s.mon.supplyHold && m.supplyHold) .supplyHold).syncHolds).recomputeLimit := rfl
  rw [compared, raiseIf_eq, syncHolds_of_sampled (by exact run) (by rfl)]
  simp [recomputeLimit_eq, followHolds_dotLimit]

/-- The Monitor after a thermistor reading. -/
def Monitor.readTherm (m : Monitor) (r : Int) (now : Nat) : Monitor :=
  if validReading r then
    { m with lastTherm := now, thermOwed := false, temp := r, fallback := false
             thermalHold := thermalHoldAfter m.thermalHold r m.otLimit }
  else { m with lastTherm := now, thermOwed := false, fallback := true }

theorem readTherm_supply (m : Monitor) (r : Int) (now : Nat) : (m.readTherm r now).supply = m.supply := by
  unfold Monitor.readTherm
  split <;> rfl

/-- The reading of a moment at which a sample was taken, the Head Drive following the holds and L computed. -/
theorem readThermistor_of_run {s : State} (run : s.mon.power = .run) (sampled : s.mon.lastSupply = s.now)
    (follows : s.head.followHolds s.mon.anyHold s.now = s.head)
    (limit : s.head.limit = dotLimitOf s.head.dotLimit s.mon.supply s.mon.fallback) :
    let m := s.mon.readTherm s.pins.therm s.now
    s.readThermistor = ((s.setMon m).setPort ((s.port.raisedIf (!s.mon.thermalHold && m.thermalHold) .thermalHold).raisedIf
        (!s.mon.fallback && m.fallback) .sensorFallback)).setHead
      ((s.head.followHolds m.anyHold s.now).withLimit (dotLimitOf s.head.dotLimit m.supply m.fallback)) := by
  intro m
  by_cases valid : validReading s.pins.therm = true
  · have reads : m = { s.mon with lastTherm := s.now, thermOwed := false, temp := s.pins.therm, fallback := false
                                  thermalHold := thermalHoldAfter s.mon.thermalHold s.pins.therm s.mon.otLimit } := if_pos valid
    have noFallback : m.fallback = false := by rw [reads]
    have compared : s.readThermistor
        = if s.mon.fallback then (((s.setMon m).raiseIf (!s.mon.thermalHold && m.thermalHold) .thermalHold).syncHolds).recomputeLimit
          else ((s.setMon m).raiseIf (!s.mon.thermalHold && m.thermalHold) .thermalHold).syncHolds := by
      rw [reads]
      exact if_pos valid
    have same : (s.head.followHolds m.anyHold s.now).withLimit s.head.limit = s.head.followHolds m.anyHold s.now := by
      rw [← followHolds_withLimit, withLimit_self]
    rw [compared, raiseIf_eq, syncHolds_of_sampled (by rw [reads]; exact run) (by rw [reads]; exact sampled), noFallback,
      Bool.and_false, raisedIf_false]
    cases fallback : s.mon.fallback with
    | true => simp [recomputeLimit_eq, followHolds_dotLimit, noFallback]
    | false =>
      have limit : dotLimitOf s.head.dotLimit m.supply false = s.head.limit := by rw [limit, fallback, readTherm_supply]
      rw [limit, same]
      simp
  · have reads : m = { s.mon with lastTherm := s.now, thermOwed := false, fallback := true } := if_neg valid
    have holds : m.anyHold = s.mon.anyHold := by rw [reads]; rfl
    have hot : m.thermalHold = s.mon.thermalHold := by rw [reads]
    have fallen : m.fallback = true := by rw [reads]
    rw [holds, follows, hot, Bool.not_and_self, raisedIf_false, fallen]
    cases fallback : s.mon.fallback with
    | true =>
      have limit : dotLimitOf s.head.dotLimit m.supply true = s.head.limit := by rw [limit, fallback, readTherm_supply]
      have unchanged : s.readThermistor = s.setMon m := by
        rw [reads, State.readThermistor, if_neg valid, if_pos fallback]
        simp [fallback]
      rw [unchanged, limit]
      rfl
    | false =>
      have falls : s.readThermistor = ((s.setMon m).raise .sensorFallback).recomputeLimit := by
        rw [reads, State.readThermistor, if_neg valid, if_neg (by simp [fallback])]
      rw [falls]
      simp [recomputeLimit_eq, fallen, CtlPort.raisedIf, State.raise]

/-! ## The wake (R166) -/

/-- The state a wake measures: in Run, its notice posted, the analogue inputs as they stand. -/
def State.wakened (s : State) (c : WakeCause) : State :=
  ((s.setMon { s.mon with power := .run }).post (.wake c)).measureInputs

theorem wake_of_doze {s : State} (doze : s.mon.power = .doze) (c : WakeCause) :
    s.wake c = (s.wakened c).sampleSupply.readThermistor := by
  rw [State.wake, doze]
  rfl

theorem wakened_eq (s : State) (c : WakeCause) : s.wakened c
    = (((((s.setMon { s.mon with power := .run }).setCrq (s.wakened c).crq).setPort
        { s.port with causes := (s.wakened c).port.causes }).setPins
          { s.pins with supply := Config.wakeSupply s.choices, therm := Config.wakeTherm s.choices })).setChoices (s.choices + 1) := by
  rw [State.wakened, post_eq]
  rfl

theorem wakened_mon (s : State) (c : WakeCause) : (s.wakened c).mon = { s.mon with power := .run } := by rw [wakened_eq]; rfl
theorem wakened_head (s : State) (c : WakeCause) : (s.wakened c).head = s.head := by rw [wakened_eq]; rfl
theorem wakened_now (s : State) (c : WakeCause) : (s.wakened c).now = s.now := by rw [wakened_eq]; rfl

/-- The Monitor after a wake's sample, and after its reading. -/
def State.wakeSample (s : State) : Monitor :=
  ({ s.mon with power := .run } : Monitor).sampled (Config.wakeSupply s.choices).toNat s.now

def State.wakeReading (s : State) : Monitor := s.wakeSample.readTherm (Config.wakeTherm s.choices) s.now

theorem setMon_setPort_setHead_overwrites (a : State) (m m' : Monitor) (x x' : CtlPort) (h h' : Head) :
    (((((a.setMon m).setPort x).setHead h).setMon m').setPort x').setHead h' = ((a.setMon m').setPort x').setHead h' := rfl

/-- A wake in full: the Monitor, the causes and the Head Drive after its sample and its reading. -/
theorem wake_eq_of_doze {s : State} (doze : s.mon.power = .doze) (c : WakeCause) :
    s.wake c = (((s.wakened c).setMon s.wakeReading).setPort
      ((((s.wakened c).port.raisedIf (!s.mon.supplyHold && s.wakeSample.supplyHold) .supplyHold).raisedIf
        (!s.wakeSample.thermalHold && s.wakeReading.thermalHold) .thermalHold).raisedIf
          (!s.wakeSample.fallback && s.wakeReading.fallback) .sensorFallback)).setHead
      (((s.head.followHolds s.wakeSample.anyHold s.now).followHolds s.wakeReading.anyHold s.now).withLimit
        (dotLimitOf s.head.dotLimit s.wakeReading.supply s.wakeReading.fallback)) := by
  have run : (s.wakened c).mon.power = .run := by rw [wakened_mon]
  have sample := sampleSupply_of_run run
  have supply : (s.wakened c).pins.supply = Config.wakeSupply s.choices := by rw [wakened_eq]; rfl
  have therm : (s.wakened c).pins.therm = Config.wakeTherm s.choices := by rw [wakened_eq]; rfl
  rw [wakened_mon, wakened_head, wakened_now, supply] at sample
  dsimp only at sample
  rw [← State.wakeSample] at sample
  have reading := readThermistor_of_run (s := (s.wakened c).sampleSupply) (by rw [sample]; rfl) (by rw [sample]; exact (wakened_now s c).symm)
    (by simp only [sample, setHead_head, setHead_mon, setPort_mon, setMon_mon, setHead_now, setPort_now, setMon_now, wakened_now,
          followHolds_withLimit, followHolds_followHolds])
    (by rw [sample]; exact congrArg (dotLimitOf · _ _) (followHolds_dotLimit ..).symm)
  rw [wake_of_doze doze, reading, sample]
  simp only [setHead_mon, setPort_mon, setMon_mon, setHead_pins, setPort_pins, setMon_pins, setHead_now, setPort_now, setMon_now,
    setHead_port, setPort_port, setHead_head, wakened_now, therm, followHolds_withLimit, followHolds_dotLimit, withLimit_withLimit,
    withLimit_dotLimit]
  rw [setMon_setPort_setHead_overwrites, ← State.wakeReading]

/-- What a reading leaves of the Monitor. -/
theorem readTherm_frame (m : Monitor) (r : Int) (now : Nat) : let n := m.readTherm r now
    n.power = m.power ∧ n.samples = m.samples ∧ n.lastSupply = m.lastSupply ∧ n.supplyOwed = m.supplyOwed
    ∧ n.supplyHold = m.supplyHold ∧ n.paper = m.paper ∧ n.lid = m.lid ∧ n.lastTherm = now ∧ n.thermOwed = false := by
  unfold Monitor.readTherm
  split <;> exact ⟨rfl, rfl, rfl, rfl, rfl, rfl, rfl, rfl, rfl⟩

/-- What a reading makes of T, the fallback and the Thermal Hold. -/
theorem readTherm_values (m : Monitor) (r : Int) (now : Nat) : let n := m.readTherm r now
    let valid := -30 ≤ r ∧ r ≤ 100
    n.temp = (if valid then r else m.temp) ∧ n.fallback = (if valid then false else true)
    ∧ (m.thermalHold = false → (n.thermalHold = true ↔ valid ∧ (m.otLimit : Int) < r))
    ∧ (m.thermalHold = true → (n.thermalHold = false ↔ valid ∧ r ≤ (m.otLimit : Int) - 8)) := by
  intro n valid
  by_cases inRange : valid
  · have reads : n = { m with lastTherm := now, thermOwed := false, temp := r, fallback := false
                              thermalHold := thermalHoldAfter m.thermalHold r m.otLimit } := if_pos ((validReading_iff r).mpr inRange)
    simp +contextual [reads, inRange, thermalHoldAfter]
  · have reads : n = { m with lastTherm := now, thermOwed := false, fallback := true } := if_neg (mt (validReading_iff r).mp inRange)
    simp +contextual [reads, inRange]

theorem supplyHoldAfter_of_free {hold : Bool} (free : hold = false) (v : Nat) : supplyHoldAfter hold v = true ↔ v < 560 := by
  simp [supplyHoldAfter, free]

theorem supplyHoldAfter_of_held {hold : Bool} (held : hold = true) (v : Nat) : supplyHoldAfter hold v = false ↔ 590 ≤ v := by
  simp [supplyHoldAfter, held]

/-- A paper, lid or Supply Hold is not the reading's to change, so without a hold after it none was in force before but a Thermal Hold. -/
theorem anyHold_of_readTherm {m : Monitor} {r : Int} {now : Nat} (free : (m.readTherm r now).anyHold = false) :
    m.anyHold = m.thermalHold := by
  obtain ⟨-, -, -, -, supply, paper, lid, -, -⟩ := readTherm_frame m r now
  simp only [Monitor.anyHold, Monitor.paperHold, supply, paper, lid, Bool.or_eq_false_iff] at free
  obtain ⟨⟨paperFree, supplyFree⟩, -⟩ := free
  simp [Monitor.anyHold, Monitor.paperHold, paperFree, supplyFree]

/-! ## Commands that leave the part in Run (R166) -/

theorem run_field {α : Type} {x : Option α} {body : α → State → State × Response}
    (keeps : ∀ a, ∀ t : State, t.mon.power = .run → (body a t).1.mon.power = .run) (t : State) (run : t.mon.power = .run) :
    (field x body t).1.mon.power = .run := by
  unfold field
  split
  · exact keeps _ t run
  · exact run

theorem State.Kept.run {a b : State} (kept : a.Kept b) (run : a.mon.power = .run) : b.mon.power = .run := kept.power.trans run

theorem lineOn_run {t : State} (run : t.mon.power = .run) : t.lineOn.mon.power = .run := by
  unfold State.lineOn
  split
  · unfold State.takeCarrier
    split
    · exact wake_power _ _
    · exact run
  · exact run

theorem lineOff_mon (t : State) : t.lineOff.mon = t.mon := by
  unfold State.lineOff
  split
  · rfl
  · obtain ⟨-, -, -, -, -, -, -, mon⟩ := endConnection_rest (t.setLine (t.line.leave .off))
    rw [State.postLineState, post_mon, mon, setLine_mon]

theorem abortSlot_mon (t : State) (n : Fin 4) : (t.abortSlot n).mon = t.mon := by
  unfold State.abortSlot
  split
  · rw [post_mon]; rfl
  · rfl
  all_goals rfl

theorem admitSegment_mon (t : State) (p : JobPort) (seg : Segment) (style : Style) (codes : List Byte) :
    (t.admitSegment p seg style codes).mon = t.mon := by
  rw [admitSegment_eq]
  unfold State.admissionNotice
  split
  all_goals simp [post_mon, State.admitCells]

theorem configPrint_power (t : State) (x : PrintSettings) : (t.configPrint x).mon.power = t.mon.power := by
  rw [State.configPrint, compareThermal_power, recomputeLimit_mon, compareStall_mon, watchStall_mon]
  rfl

theorem clearCauses_mon (t : State) (x : BitVec 10) : (t.clearCauses x).mon = t.mon := by rw [clearCauses_eq]; rfl

theorem resetUnit_mon (t : State) (x : ResetScope) : (t.resetUnit x).mon = t.mon := by
  cases x with
  | line =>
    obtain ⟨-, -, -, -, -, -, -, -, mon⟩ := resetLine_blocks t
    exact mon
  | keyboard => rfl
  | print =>
    have is : t.resetUnit .print = t.resetPrintPath.setHead t.head.reset := resetPrint_eq t
    rw [is]
    rfl
  | all =>
    obtain ⟨-, -, -, -, -, -, -, -, mon, -⟩ := resetUnit_all_blocks t
    exact mon

/-- No body of a controller command but DOZE takes a running part to Doze. -/
theorem run_portBody {c : Instr} {n : Nat} {p : List Byte} {body : State → State × Response}
    (command : portBody c = some (n, p, body)) (notDoze : ∀ q, c ≠ .doze q) :
    ∀ t : State, t.mon.power = .run → (body t).1.mon.power = .run := by
  cases c <;> cases command
  case configLine =>
    intro t run
    unfold configLineBody
    split
    · exact run_field (fun _ _ => id) t run
    · exact run
  case lineOn => exact fun t => lineOn_run
  case lineOff => exact fun t run => (congrArg Monitor.power (lineOff_mon t)).trans run
  case setFilter | setMask =>
    refine run_field fun n t run => ?_
    split
    · exact run_field (fun _ _ => id) t run
    · exact run
  case setDefaultAction => exact run_field fun _ _ => id
  case configFlow => exact run_field fun x t => (kept_flowCompare (t.setTx { t.tx with flowSettings := x })).run
  case loadSlot =>
    refine run_field fun n t run => ?_
    split
    · exact run_field (fun _ _ => id) t run
    · exact run
  case requestSlot =>
    refine run_field fun n t run => ?_
    split <;> exact run
  case abortSlot => exact run_field fun n t run => (congrArg Monitor.power (abortSlot_mon t n)).trans run
  case sendText =>
    intro t run
    unfold sendTextBody
    split <;> exact run
  case sendBreak => exact fun t => (kept_requestBreak t).run
  case writeStore =>
    intro t run
    unfold writeStoreBody
    split
    · exact run
    · exact run
    · split <;> exact run
  case readStore => exact fun t => run_field (fun _ _ => id) t
  case setRemoteMask => exact run_field fun _ _ => id
  case configKeyboard => exact run_field fun _ _ => id
  case writeKeymap => exact run_field fun _ => run_field fun _ => run_field fun _ _ => id
  case readKeymap => exact run_field fun _ => run_field fun _ _ => id
  case print =>
    refine run_field fun x t run => ?_
    split
    · exact (congrArg Monitor.power (admitSegment_mon t _ _ _ _)).trans run
    · exact run
  case cancelJob => exact run_field fun p t => (kept_cancelJob t p).run
  case pausePrint => exact fun _ => id
  case resumePrint => exact fun _ => id
  case configPrint => exact run_field fun x t run => (configPrint_power t x).trans run
  case readQueue => exact fun _ => id
  case readStatus => exact fun _ => id
  case clearCauses => exact run_field fun x t run => (congrArg Monitor.power (clearCauses_mon t x)).trans run
  case setAttnMask => exact run_field fun _ _ => id
  case resetUnit => exact run_field fun x t run => (congrArg Monitor.power (resetUnit_mon t x)).trans run
  case doze => exact absurd rfl (notDoze _)

/-- A controller command but DOZE, taken, leaves the part in Run. -/
theorem exec_controller_runs {p : List Byte} {c : Instr} (listed : c ∈ controllerCommands p) (notDoze : c ≠ .doze p) (s : State) :
    ∃ t, exec c s = .next t ∧ t.mon.power = .run := by
  obtain ⟨i, inTable, is⟩ := List.mem_iff_getElem.mp listed
  have code : (BitVec.ofNat 8 i).toNat = i := Nat.mod_eq_of_lt (Nat.lt_trans inTable (show 30 < 256 by decide))
  have spelt : commandOfCode (BitVec.ofNat 8 i) p = some c := by
    rw [commandOfCode_eq_getElem?, code, List.getElem?_eq_getElem inTable, is]
  obtain ⟨q, rfl⟩ | ⟨n, q, body, command⟩ := commandOfCode_cases spelt
  · exact ⟨_, exec_noneCommand q s, (kept_finishEvent _).run (wake_power _ _)⟩
  · have others : ∀ q', c ≠ .doze q' := by
      rintro q' rfl
      exact notDoze (by simpa [controllerCommands] using listed)
    refine ⟨_, exec_of_portBody command s, (kept_finishEvent _).run ?_⟩
    show (checked n q body (s.wake .command)).1.mon.power = .run
    unfold checked
    split
    · exact run_portBody command others _ (wake_power _ _)
    · exact wake_power _ _

theorem wake_notice_of_doze (s : State) (c : WakeCause) :
    (s.crq.length < 64 → (s.wakened c).crq = s.crq ++ [.notice (.wake c)])
    ∧ (64 ≤ s.crq.length → (s.wakened c).crq = s.crq ∧ namesCause (s.wakened c).port.causes .noticeLost = true)
    ∧ ∀ d, d ≠ .noticeLost → namesCause (s.wakened c).port.causes d = namesCause s.port.causes d := by
  refine ⟨fun room => ?_, fun full => ?_, fun d other => namesCause_post_of_ne other _ _⟩
  · rw [State.wakened, post_of_room (by exact room)]
    rfl
  · rw [State.wakened, post_of_full (by exact full)]
    exact ⟨rfl, namesCause_raise_same _ _⟩

/-- Settles O8: by the wake in full. -/
theorem takenCommandWakes : Obligations.TakenCommandWakes := by
  refine ⟨fun s c run => wake_of_run run c, fun s c doze => ?_, fun p s c listed notDoze => exec_controller_runs listed notDoze s⟩
  obtain ⟨room, full, others⟩ := wake_notice_of_doze s c
  obtain ⟨power, samples, lastSupply, supplyOwed, supplyHold, paper, lid, lastTherm, thermOwed⟩ :=
    readTherm_frame s.wakeSample (Config.wakeTherm s.choices) s.now
  obtain ⟨temp, fallback, cool, hot⟩ := readTherm_values s.wakeSample (Config.wakeTherm s.choices) s.now
  have free := anyHold_of_readTherm (m := s.wakeSample) (r := Config.wakeTherm s.choices) (now := s.now)
  have supply := readTherm_supply s.wakeSample (Config.wakeTherm s.choices) s.now
  rw [← State.wakeReading] at *
  have whole := wake_eq_of_doze doze c
  have mon : (s.wake c).mon = s.wakeReading := by rw [whole]; rfl
  have crq : (s.wake c).crq = (s.wakened c).crq := by rw [whole]; rfl
  have choices : (s.wake c).choices = s.choices + 1 := by rw [whole, wakened_eq]; rfl
  have volts : (s.wake c).pins.supply = Config.wakeSupply s.choices := by rw [whole, wakened_eq]; rfl
  have therm : (s.wake c).pins.therm = Config.wakeTherm s.choices := by rw [whole, wakened_eq]; rfl
  have head : (s.wake c).head = ((s.head.followHolds s.wakeSample.anyHold s.now).followHolds s.wakeReading.anyHold s.now).withLimit
      (dotLimitOf s.head.dotLimit s.wakeReading.supply s.wakeReading.fallback) := by rw [whole, setHead_head]
  have causes (d : Cause) : namesCause (s.wake c).port.causes d = (((namesCause (s.wakened c).port.causes d
      || ((!s.mon.supplyHold && s.wakeSample.supplyHold) && decide (d = .supplyHold)))
      || ((!s.wakeSample.thermalHold && s.wakeReading.thermalHold) && decide (d = .thermalHold)))
      || ((!s.wakeSample.fallback && s.wakeReading.fallback) && decide (d = .sensorFallback))) := by
    rw [whole, setHead_port, setPort_port, namesCause_raisedIf, namesCause_raisedIf, namesCause_raisedIf]
  intro w
  rw [mon, crq, volts, therm]
  refine ⟨power, room, fun noRoom => ⟨(full noRoom).1, ?_⟩, samples, lastSupply, lastTherm, supplyOwed, thermOwed, fun free => ?_,
    fun held => ?_, ?_, ⟨temp, fallback, cool, hot⟩, ?_, ?_, ?_, ?_, ?_, ?_, ?_, choices, wake_carrier _ _, wake_paper _ _,
    wake_lid _ _, paper, lid, wake_keys _ _, wake_line _ _, wake_tx _ _, wake_arb _ _, wake_store _ _, wake_rtq _ _,
    wake_engine _ _, wake_comp _ _, wake_now _ _⟩
  · exact causes .noticeLost ▸ by simp [(full noRoom).2]
  · rw [supplyHold, supply]
    exact supplyHoldAfter_of_free free _
  · rw [supplyHold, supply]
    exact supplyHoldAfter_of_held held _
  · rw [causes, others _ (by decide), supplyHold]
    simp
  · rw [causes, others _ (by decide)]
    simp [show s.wakeSample.thermalHold = s.mon.thermalHold from rfl]
  · rw [causes, others _ (by decide)]
    simp [show s.wakeSample.fallback = s.mon.fallback from rfl]
  · rw [head]
    rfl
  · intro row
    rw [head, followHolds_of_row row, followHolds_of_row row]
    rfl
  · intro held resting
    rw [head, held]
    exact followHolds_held_of_resting resting _ _
  · intro none hold
    rw [head, none, followHolds_free_of_hold hold]
    rfl
  · intro none before resting
    have cool : s.wakeSample.anyHold = false := by
      rw [free none]
      exact (Bool.or_eq_false_iff.mp before).2
    rw [head, none, cool, followHolds_free_of_resting resting, followHolds_free_of_resting resting]
    rfl

end Sys2Proof.Machine
end

section
/-!
SUPPORT. Which characters are marked and which are space throughout, code and parity by bits (R2, R14); what ends before a character is handed on, and what a Break and a held character leave (R15, R16, R21, R22); the bytes of a record (R23 to R27) and its abandonment (R28).
-/

namespace Sys2Proof.Machine
open Sys2Proof.Laws

/-! ## Characters (R2, R14) -/

/-- The parity of the low bits says whether their number of ones is odd. -/
theorem parityOf_eq_count (n : Nat) (b : Byte) :
    parityOf n b = decide (((List.range n).map b.getLsbD).count true % 2 = 1) := by
  induction n with
  | zero => rfl
  | succ n ih =>
    rw [parityOf, ih, List.range_succ, List.map_append, List.count_append]
    cases bit : b.getLsbD n
    · simp [bit]
    · simp only [List.map_cons, List.map_nil, bit, List.count_singleton_self, Bool.xor_true]
      rw [← decide_not, decide_eq_decide]
      omega

theorem parity_of_even (ones : Nat) (parity : Bool) : (parity != decide (ones % 2 = 1)) = true ↔ (ones + [parity].count true) % 2 = 1 := by
  cases parity with
  | false => simp
  | true => simp; omega

theorem parity_of_odd (ones : Nat) (parity : Bool) : (parity != !decide (ones % 2 = 1)) = true ↔ (ones + [parity].count true) % 2 = 0 := by
  cases parity with
  | false => simp
  | true => simp; omega

theorem receivedCode_of_7bit {f : Format} (seven : f ≠ .f8N1) (data : Byte) : receivedCode f data = data &&& 0x7F := by
  cases f with
  | f8N1 => exact absurd rfl seven
  | f7E1 | f7O1 => rfl

theorem low7_getLsbD (data : Byte) (i : Nat) : (data &&& 0x7F).getLsbD i = (data.getLsbD i && decide (i < 7)) := by
  have mask : (0x7F : Byte) = BitVec.setWidth 8 (BitVec.allOnes 7) := by decide
  rw [mask, BitVec.getLsbD_and, BitVec.getLsbD_setWidth, BitVec.getLsbD_allOnes]
  by_cases low : i < 7
  · simp [low, show i < 8 by omega]
  · simp [low]

theorem eq_zero_iff_bits (b : Byte) : b = 0 ↔ ∀ i : Nat, i < 8 → b.getLsbD i = false := by
  refine ⟨fun zero i _ => by rw [zero]; simp, fun clear => BitVec.eq_of_getLsbD_eq fun i hi => ?_⟩
  rw [clear i hi]
  simp

theorem isAllSpace_f8N1_iff (data : Byte) (parity stop : Bool) :
    isAllSpace .f8N1 data parity stop = true ↔ stop = false ∧ ∀ i : Nat, i < 8 → data.getLsbD i = false := by
  simp [isAllSpace, receivedCode, ← eq_zero_iff_bits]

theorem isAllSpace_of_7bit_iff {f : Format} (seven : f ≠ .f8N1) (data : Byte) (parity stop : Bool) :
    isAllSpace f data parity stop = true ↔ stop = false ∧ parity = false ∧ ∀ i : Nat, i < 7 → data.getLsbD i = false := by
  have code : receivedCode f data = 0 ↔ ∀ i : Nat, i < 7 → data.getLsbD i = false := by
    rw [receivedCode_of_7bit seven, eq_zero_iff_bits]
    simp only [low7_getLsbD, Bool.and_eq_false_iff, decide_eq_false_iff_not]
    exact ⟨fun clear i hi => (clear i (by omega)).resolve_right fun past => past hi, fun clear i _ => by
      by_cases low : i < 7
      · exact .inl (clear i low)
      · exact .inr low⟩
  cases f with
  | f8N1 => exact absurd rfl seven
  | f7E1 | f7O1 =>
    simp only [isAllSpace, Bool.and_eq_true, Bool.not_eq_true', beq_iff_eq, code]
    exact ⟨fun ⟨⟨start, clear⟩, even⟩ => ⟨start, even, clear⟩, fun ⟨start, even, clear⟩ => ⟨⟨start, clear⟩, even⟩⟩

theorem not_allSpace_of_stop (f : Format) (data : Byte) (parity : Bool) : isAllSpace f data parity true = false := rfl

theorem receiving_iff (l : Line) : l.receiving = true ↔
    l.state = .online ∧ (l.settings.speed = .sb300 ∨ (l.settings.speed = .ta1200 ∧ l.direction = some .listening)) := by
  unfold Line.receiving
  cases l.settings.speed <;> simp

/-! ## What ends before a character (R14, R15, R21; log 11) -/

section
variable {s : State} {data : Byte} {parity stop : Bool} {edge : Option Nat}

theorem exec_characterReceived_of_not_receiving (quiet : s.line.receiving = false) :
    exec (.characterReceived data parity stop edge) s = .next s := congrArg _ (event_false s quiet _)

theorem exec_characterReceived_of_receiving (receiving : s.line.receiving = true) :
    exec (.characterReceived data parity stop edge) s = .next (s.receive data parity stop edge).finishEvent :=
  congrArg _ (if_pos receiving)

/-- Two states from which the character does the same. -/
theorem exec_characterReceived_congr {t : State} (receiving : s.line.receiving = true) (receiving' : t.line.receiving = true)
    (same : s.receive data parity stop edge = t.receive data parity stop edge) :
    exec (.characterReceived data parity stop edge) s = exec (.characterReceived data parity stop edge) t := by
  rw [exec_characterReceived_of_receiving receiving, exec_characterReceived_of_receiving receiving', same]

theorem endBreak_line (s : State) : s.endBreak.line = { s.line with inBreak := false } := by
  unfold State.endBreak
  split <;> rfl

theorem releaseHeld_of_held (held : s.line.held = true) : s.releaseHeld = (s.setLine { s.line with held := false }).handOn 0 true none :=
  if_pos held

end

/-- What a stop bit does once a Break has ended and a held character is released. -/
def State.hear (s : State) (f : Format) (data : Byte) (parity stop : Bool) (edge : Option Nat) : State :=
  if isAllSpace f data parity stop then (s.expireGap s.gapBeforeCharacter).holdCharacter
  else (s.expireGap s.gapBeforeCharacter).handOn (receivedCode f data) (isMarked f data parity stop) edge

theorem receive_of_mark {s : State} (mark : s.line.inBreak = false) (data : Byte) (parity stop : Bool) (edge : Option Nat) :
    s.receive data parity stop edge = s.releaseHeld.hear s.line.settings.format data parity stop edge := by
  simp [State.receive, State.hear, mark]

theorem receive_of_inBreak {s : State} (inBreak : s.line.inBreak = true) (data : Byte) (parity stop : Bool) (edge : Option Nat) :
    s.receive data parity stop edge = s.endBreak.receive data parity stop edge := by
  have ended := endBreak_line s
  rw [receive_of_mark (s := s.endBreak) (by rw [ended]), ended]
  simp [State.receive, State.hear, inBreak]

/-- The line after a held character is released, whatever the release makes of it. -/
theorem handOn_marked_line (s : State) (c : Byte) (edge : Option Nat) : (s.handOn c true edge).line = s.line
    ∨ (s.handOn c true edge).line = { s.line with trim := none } := by
  by_cases text : s.engine.rx = .text
  · refine .inl ?_
    rw [State.handOn, if_pos text]
    unfold State.offerText
    split
    · rw [State.pushRtq, flowCompare_eq]; rfl
    · rfl
  · exact .inr (by rw [handOn_in_record text]; rfl)

theorem offerText_of_room {s : State} (room : s.rtq.length < 256) (c : Byte) (marked : Bool) :
    s.offerText c marked = (s.setRtq (s.rtq ++ [{ code := if marked then s.line.settings.substitute else c
                                                  route := s.line.settings.textRoute, substituted := marked }])).flowCompare :=
  if_pos room

theorem offerText_of_full {s : State} (full : 256 ≤ s.rtq.length) (c : Byte) (marked : Bool) :
    s.offerText c marked = (s.setStore (s.store.setRoute s.line.settings.textRoute
      { s.store.route s.line.settings.textRoute with overflow := true })).raise .routeOverflow := if_neg (Nat.not_lt.mpr full)

theorem receive_of_held {s : State} (mark : s.line.inBreak = false) (held : s.line.held = true) (data : Byte) (parity stop : Bool)
    (edge : Option Nat) : s.receive data parity stop edge
      = ((s.setLine { s.line with held := false }).handOn 0 true none).receive data parity stop edge := by
  have released := handOn_marked_line (s.setLine { s.line with held := false }) 0 none
  rw [receive_of_mark mark, releaseHeld_of_held held]
  generalize (s.setLine { s.line with held := false }).handOn 0 true none = t at *
  have line : t.line.inBreak = false ∧ t.line.held = false ∧ t.line.settings = s.line.settings := by
    rcases released with line | line <;> rw [line] <;> exact ⟨mark, rfl, rfl⟩
  obtain ⟨mark', held', settings⟩ := line
  rw [receive_of_mark mark', releaseHeld_of_not_held held', settings]

/-- Settles O25: the bits of a character, and what is done before it is offered to the RTQ. -/
theorem characterBecomesTextCell : Obligations.CharacterBecomesTextCell := by
  refine ⟨receiving_iff, fun data parity stop => ?bits, fun data parity stop edge s => ?received⟩
  case bits =>
    intro ones
    refine ⟨by simp [isMarked], ?_, ?_, isAllSpace_f8N1_iff .., rfl, fun f seven => ⟨isAllSpace_of_7bit_iff seven .., ?_, ?_⟩⟩
    · rw [isMarked, Bool.or_eq_true, Bool.not_eq_true', parityBit, parityOf_eq_count, parity_of_even]
    · rw [isMarked, Bool.or_eq_true, Bool.not_eq_true', parityBit, parityOf_eq_count, parity_of_odd]
    · intro i low
      rw [receivedCode_of_7bit seven, low7_getLsbD, decide_eq_true low, Bool.and_true]
    · rw [receivedCode_of_7bit seven, low7_getLsbD, decide_eq_false (by decide), Bool.and_false]
  case received =>
    intro f r marked
    refine ⟨exec_characterReceived_of_not_receiving, fun receiving mark held text space => ?_, fun receiving inBreak => ?_,
      fun receiving mark held => ?_⟩
    · have inTime : s.gapBeforeCharacter = false := by simp [State.gapBeforeCharacter, State.gapBefore, text]
      have completes := completes_characterReceived receiving data parity stop edge
      rw [receive_in_time mark held inTime space, State.handOn, if_pos text] at completes
      exact ⟨fun room => by rwa [offerText_of_room room] at completes, fun full => by rwa [offerText_of_full full] at completes⟩
    · intro a ended
      have same : s.endBreak = ended := rfl
      have receiving' : s.endBreak.line.receiving = true := by rw [endBreak_line]; exact receiving
      exact same ▸ exec_characterReceived_congr receiving receiving' (receive_of_inBreak inBreak ..)
    · intro a released
      have same : a.handOn 0 true none = released := by
        by_cases text : s.engine.rx = .text
        · have noRecord : ¬ s.engine.rx ≠ .text := fun record => record text
          rw [State.handOn, if_pos (by exact text)]
          show a.offerText 0 true = if _ then _ else _
          rw [if_neg noRecord]
          by_cases room : s.rtq.length < 256
          · rw [if_pos room, offerText_of_room (by exact room)]
            rfl
          · rw [if_neg room, offerText_of_full (by exact Nat.not_lt.mp room)]
            rfl
        · exact (handOn_in_record (s := a) text ..).trans (if_pos text).symm
      have receiving' : (a.handOn 0 true none).line.receiving = true := by
        rcases handOn_marked_line a 0 none with line | line <;> rw [line] <;> exact receiving
      exact same ▸ exec_characterReceived_congr receiving receiving' (receive_of_held mark held ..)

/-! ## Held characters and Breaks (R15, R16, R21, R22) -/

section
variable {s : State}

theorem completes_heldCharacterRelease (receiving : s.line.receiving = true) (held : s.line.held = true) :
    Completes .heldCharacterRelease s ((s.setLine { s.line with held := false }).handOn 0 true none) :=
  releaseHeld_of_held held ▸ completes_of_event (c := .heldCharacterRelease) (f := State.releaseHeld) rfl (by rw [receiving, held]; rfl)

theorem exec_breakDetected (receiving : s.line.receiving = true) (mark : s.line.inBreak = false) :
    exec .breakDetected s = .next s.takeBreak.finishEvent := congrArg _ (if_pos (by rw [receiving, mark]; rfl))

theorem takeBreak_in_time (inTime : s.gapBeforeBreak = false) : s.takeBreak = match s.line.settings.format with
      | .f8N1 => (s.setLine { s.line with held := false, inBreak := true, trim := none }).setEngine
          { s.engine with rx := .marker, record := { crc := 0xFFFF }, gap := none }
      | .f7E1 | .f7O1 => (s.setLine { s.line with held := false, inBreak := true }).post .brk := by
  rw [State.takeBreak, inTime]
  cases s.line.settings.format <;> rfl

theorem abandon_text (s : State) (e : RecordError) : (s.abandon e).engine.rx = .text := rfl

theorem gapBefore_of_text (text : s.engine.rx = .text) (n d : Nat) : s.gapBefore n d = false := by
  simp [State.gapBefore, text]

/-- A Break whose start edge came too late comes to the abandoned record. -/
theorem takeBreak_late (late : s.gapBeforeBreak = true) : s.takeBreak = (s.abandon .gap).takeBreak := by
  have settings : (s.abandon .gap).line.settings = s.line.settings := rfl
  have inTime : (s.abandon .gap).gapBeforeBreak = false := gapBefore_of_text (abandon_text s .gap) _ _
  rw [State.takeBreak, late, State.takeBreak, inTime, settings]
  rfl

theorem gapBefore_iff (n d : Nat) : s.gapBefore n d = true ↔ s.engine.rx ≠ .text ∧ ∃ start, s.engine.gap = some start
    ∧ d * (start + 30 * bitTime s.line.settings.speed) + n < d * s.now := by
  have time : 3 * charTime s.line.settings.speed = 30 * bitTime s.line.settings.speed := by rw [charTime]; omega
  rw [State.gapBefore, time]
  cases s.engine.gap <;> simp

theorem exec_breakEnd (inBreak : s.line.inBreak = true) : Completes .breakEnd s s.endBreak :=
  completes_of_event (c := .breakEnd) rfl inBreak

end

/-- Settles O26: a break and a held character by whether a break is under way and whether a character is held. -/
theorem breaksAndHeldCharacters : Obligations.BreaksAndHeldCharacters := by
  intro s
  refine ⟨fun receiving mark held data parity stop edge space => ?hold, fun quiet => ?_, fun receiving held => ?release,
    fun quiet => ?_, ?before, fun receiving mark late => ?late, fun receiving mark inTime => ?detected, fun mark => ?_,
    fun inBreak => ?ends⟩
  case hold =>
    have completes := completes_characterReceived receiving data parity stop edge
    rw [receive_of_mark mark, releaseHeld_of_not_held held, State.hear, if_pos space] at completes
    refine ⟨fun inTime => ?_, fun late => ?_⟩
    · rwa [inTime] at completes
    · rwa [late] at completes
  case release =>
    intro a
    have completes := completes_heldCharacterRelease receiving held
    refine ⟨fun inRecord => ?_, fun text room => ?_, fun text full => ?_⟩
    · rwa [handOn_in_record (by exact inRecord)] at completes
    · rwa [State.handOn, if_pos (by exact text), offerText_of_room (by exact room)] at completes
    · rwa [State.handOn, if_pos (by exact text), offerText_of_full (by exact full)] at completes
  case before =>
    have time : 2 * charTime s.line.settings.speed = 20 * bitTime s.line.settings.speed := by rw [charTime]; omega
    rw [State.gapBeforeBreak, gapBefore_iff, time]
    simp only [Nat.one_mul]
  case late =>
    rw [exec_breakDetected receiving mark, takeBreak_late late]
    exact (exec_breakDetected (s := s.abandon .gap) receiving mark).symm
  case detected =>
    have completes : Completes .breakDetected s s.takeBreak := ⟨_, exec_breakDetected receiving mark, settled_finishEvent _⟩
    rw [takeBreak_in_time inTime] at completes
    refine ⟨fun format => by rwa [format] at completes, fun format => ?_⟩
    cases other : s.line.settings.format with
    | f8N1 => exact absurd other format
    | f7E1 | f7O1 => rwa [other] at completes
  case ends =>
    intro a
    have completes := exec_breakEnd inBreak
    exact ⟨fun text => by rwa [State.endBreak, if_pos text] at completes, fun inRecord => by rwa [State.endBreak, if_neg inRecord] at completes⟩
  · exact congrArg _ (event_false s (by rcases quiet with no | no <;> simp [no]) _)
  · exact congrArg _ (event_false s (by rcases quiet with no | no <;> simp [no]) _)
  · exact congrArg _ (event_false s mark _)

/-! ## The bytes of a record (R17, R23 to R27) -/

theorem intervalOk_some_iff (m : Speed) (n : Nat) :
    intervalOk m (some n) = true ↔ 672 * bitTime m ≤ 100 * n ∧ 100 * n ≤ 728 * bitTime m := by
  simp [intervalOk]

/-- A byte is added to the running CRC bit by bit. -/
theorem crcByte_eq (crc : BitVec 16) (b : Byte) :
    let add (c : BitVec 16) (i : Nat) : BitVec 16 :=
      if (b.getLsbD i ^^ c.getLsbD 0) = true then (c >>> 1) ^^^ 0x8408#16 else c >>> 1
    crcByte crc b = add (add (add (add (add (add (add (add crc 0) 1) 2) 3) 4) 5) 6) 7 := rfl

section
variable {s : State}

/-- An unmarked character of 8N1 in a record, its start edge in time, is the record's next byte. -/
theorem completes_recordByte (receiving : s.line.receiving = true) (mark : s.line.inBreak = false) (held : s.line.held = false)
    (format : s.line.settings.format = .f8N1) (inTime : s.gapBeforeCharacter = false) (inRecord : s.engine.rx ≠ .text)
    (data : Byte) (parity : Bool) (edge : Option Nat) :
    Completes (.characterReceived data parity true edge) s (s.recordCharacter data false edge) := by
  have completes := completes_characterReceived receiving data parity true edge
  rw [receive_in_time mark held inTime (not_allSpace_of_stop ..), handOn_in_record inRecord, format] at completes
  exact completes

theorem takeMarker_of_ok {c : Byte} {edge : Option Nat} (code : c = 0xC3) (interval : intervalOk s.line.settings.speed edge = true) :
    s.takeMarker c edge = (s.assemble .header s.engine.record).setLine { s.line with trim := edge } :=
  if_pos (by simp [code, interval, markerCode])

theorem takeMarker_of_bad {c : Byte} {edge : Option Nat} (bad : c ≠ 0xC3 ∨ intervalOk s.line.settings.speed edge = false) :
    s.takeMarker c edge = s.abandon .marker :=
  if_neg fun ok => by
    obtain ⟨code, interval⟩ := (Bool.and_eq_true_iff).mp ok
    exact bad.elim (fun other => other (of_decide_eq_true code)) fun wrong => by simp [wrong] at interval

theorem stationUpper_eq (c : Byte) : (c.extractLsb' 5 3 != 0) = decide (32 ≤ c.toNat) := by
  revert c
  decide

theorem routeOf_eq (c : Byte) : (c.extractLsb' 0 4).toFin = (⟨c.toNat % 16, Nat.mod_lt _ (by decide)⟩ : Fin 16) := by
  revert c
  decide

theorem takeCheck_low (none : s.engine.record.crcLow = none) (c : Byte) :
    s.takeCheck c = s.assemble .check { s.engine.record with crcLow := some c } := by
  simp only [State.takeCheck, none]

theorem crcOfBytes_toNat (low high : Byte) : (low.setWidth 16 ||| (high.setWidth 16 <<< 8)).toNat = low.toNat + 256 * high.toNat := by
  have low8 := low.isLt
  have high8 := high.isLt
  have shifted : (high.setWidth 16 <<< 8).toNat = high.toNat <<< 8 := by
    simp only [BitVec.toNat_shiftLeft, BitVec.toNat_setWidth, Nat.shiftLeft_eq]
    omega
  have same : (low.setWidth 16).toNat = low.toNat := by simp only [BitVec.toNat_setWidth]; omega
  rw [BitVec.toNat_or, shifted, same, Nat.or_comm, ← Nat.shiftLeft_add_eq_or_of_lt low8, Nat.shiftLeft_eq]
  omega

theorem takeCheck_high {low : Byte} (some : s.engine.record.crcLow = some low) (c : Byte) : s.takeCheck c
    = if low.toNat + 256 * c.toNat = s.engine.record.crc.toNat then s.dropRecord.decide s.engine.record else s.abandon .crc := by
  have agrees : low.setWidth 16 ||| (c.setWidth 16 <<< 8) = s.engine.record.crc
      ↔ low.toNat + 256 * c.toNat = s.engine.record.crc.toNat := by
    rw [← crcOfBytes_toNat, BitVec.toNat_inj]
  simp only [State.takeCheck, some, agrees]

end

/-- Settles O28: one lemma for each state of a record. -/
theorem recordBytesAssemble : Obligations.RecordBytesAssemble := by
  refine ⟨fun _ => rfl, rfl, ⟨rfl, rfl, fun n => ?_, fun n => ?_⟩, crcByte_eq, by decide +kernel,
    fun data parity edge s receiving mark held format inTime => ?bytes⟩
  · rw [intervalOk_some_iff]
    show 672 * 10000 ≤ 100 * n ∧ 100 * n ≤ 728 * 10000 ↔ _
    omega
  · rw [intervalOk_some_iff]
    show 672 * 2500 ≤ 100 * n ∧ 100 * n ≤ 728 * 2500 ↔ _
    omega
  case bytes =>
    intro r go c
    have completes (rx : RxState) (is : s.engine.rx = rx) (inRecord : rx ≠ .text) : Completes c s (s.recordCharacter data false edge) :=
      completes_recordByte receiving mark held format inTime (by rw [is]; exact inRecord) data parity edge
    refine ⟨fun marker => ?_, fun station => ?_, fun route => ?_, fun payload => ?_, fun check => ?_⟩
    · have completes := completes _ marker nofun
      rw [State.recordCharacter, marker] at completes
      exact ⟨fun bad => takeMarker_of_bad bad ▸ completes, fun code interval => takeMarker_of_ok code interval ▸ completes⟩
    · have completes := completes _ station nofun
      rw [State.recordCharacter, station] at completes
      rw [← stationUpper_eq]
      exact completes
    · have completes := completes _ route nofun
      rw [State.recordCharacter, route] at completes
      rw [← routeOf_eq]
      exact completes
    · have completes := completes _ payload nofun
      rw [State.recordCharacter, payload] at completes
      have completes : Completes c s (s.takePayload data) := completes
      rw [State.takePayload] at completes
      simp only [List.length_append, List.length_singleton] at completes
      exact completes
    · have completes := completes _ check nofun
      rw [State.recordCharacter, check] at completes
      have completes : Completes c s (s.takeCheck data) := completes
      refine ⟨fun low => by rwa [takeCheck_low low] at completes, fun low some => ?_⟩
      rw [takeCheck_high some] at completes
      exact ⟨fun wrong => by rwa [if_neg wrong] at completes, fun right => by rwa [if_pos right] at completes⟩

/-! ## Abandonment (R22, R28) -/

theorem abandon_eq (s : State) (e : RecordError) : s.abandon e = ((s.setEngine
      { s.engine with rx := .text, record := {}, gap := none, counts := s.engine.counts.count e }).setLine
        { s.line with trim := none }).setPort { s.port with causes := s.port.causes ||| Cause.recordError.mask } := by
  simp [State.abandon, State.dropRecord, State.clearTrim, State.raise, State.setEngine, State.setLine, State.setPort]

theorem abandon_blocks (s : State) (e : RecordError) : let t := s.abandon e
    t.engine = { s.engine with rx := .text, record := {}, gap := none, counts := s.engine.counts.count e }
    ∧ t.line = { s.line with trim := none } ∧ t.port = { s.port with causes := s.port.causes ||| Cause.recordError.mask }
    ∧ (t.setEngine s.engine |>.setLine s.line |>.setPort s.port) = s := by
  rw [abandon_eq]
  simp [State.setEngine, State.setLine, State.setPort]

theorem gapBeforeCharacter_iff (s : State) : s.gapBeforeCharacter = true ↔ s.engine.rx ≠ .text ∧ ∃ start, s.engine.gap = some start
    ∧ 14 * (start + 30 * bitTime s.line.settings.speed) + 19 * s.line.trim.getD (7 * bitTime s.line.settings.speed) < 14 * s.now :=
  gapBefore_iff _ _

/-- A character whose start edge came too late comes to the abandoned record. -/
theorem receive_late {s : State} (mark : s.line.inBreak = false) (held : s.line.held = false) (late : s.gapBeforeCharacter = true)
    (data : Byte) (parity stop : Bool) (edge : Option Nat) :
    s.receive data parity stop edge = (s.abandon .gap).receive data parity stop edge := by
  have inTime : (s.abandon .gap).gapBeforeCharacter = false := gapBefore_of_text (abandon_text s .gap) _ _
  have held' : (s.abandon .gap).line.held = false := held
  rw [receive_of_mark mark, releaseHeld_of_not_held held, receive_of_mark (s := s.abandon .gap) mark, releaseHeld_of_not_held held',
    State.hear, State.hear, late, inTime]
  rfl

/-- Settles O29: each cause of abandonment by its own step, and the moment of the gap timer. -/
theorem abandonmentIsCounted : Obligations.AbandonmentIsCounted := by
  refine ⟨fun data parity stop edge s receiving mark held inRecord inTime space marked => ?framing, gapBeforeCharacter_iff,
    fun data parity stop edge s receiving mark held late => ⟨?late, abandon_text s .gap⟩, fun s start inRecord running => ?expiry,
    abandon_blocks, fun c => ⟨rfl, rfl, rfl, rfl, rfl⟩, fun n low => if_pos low, rfl, fun s r reply => ?reply⟩
  case framing =>
    have completes := completes_characterReceived receiving data parity stop edge
    rwa [receive_in_time mark held inTime space, handOn_in_record inRecord, marked, recordCharacter_of_marked] at completes
  case late =>
    exact exec_characterReceived_congr (t := s.abandon .gap) receiving receiving (receive_late mark held late ..)
  case expiry =>
    intro due
    have time : 3 * charTime s.line.settings.speed = 30 * bitTime s.line.settings.speed := by rw [charTime]; omega
    have runs : s.recordGapDue = some due := by
      rw [State.recordGapDue, running, time, whenever_true (by simpa using inRecord)]
      rfl
    refine ⟨completes_of_expiry (c := .gapTimerExpiry) (f := fun s => s.abandon .gap) rfl runs, ?_⟩
    rw [timerDue_recordGap runs]
    simp [charTime]
  case reply => exact completes_of_expiry (c := .replyReady) (f := id) rfl (by rw [State.replyDue, reply]; rfl)

end Sys2Proof.Machine
end

section
/-!
SUPPORT. Which filter matches and which governs (R31); the examination of an accepted record, kind by kind, and what it then does (R34 to R42).
-/

namespace Sys2Proof.Machine

/-! ## Filters (R31) -/

theorem agrees_iff {w : Nat} (mask field value : BitVec w) : agrees mask field value = true
    ↔ ∀ i < w, mask.getLsbD i = false → field.getLsbD i = value.getLsbD i := by
  rw [agrees, beq_iff_eq]
  constructor
  · intro zero i hi clear
    have bit := congrArg (BitVec.getLsbD · i) zero
    have differ : (field.getLsbD i ^^ value.getLsbD i) = (0 : BitVec w).getLsbD i := by
      simpa only [BitVec.getLsbD_and, BitVec.getLsbD_xor, BitVec.getLsbD_not, hi, clear, decide_true, Bool.not_false, Bool.and_true]
        using bit
    simpa using differ
  · intro same
    refine BitVec.eq_of_getLsbD_eq fun i hi => ?_
    cases clear : mask.getLsbD i
    · simp [same i hi clear]
    · simp [clear]

/-- The first index with a property is the one `find?` gives. -/
theorem find?_finRange_of_first {k : Nat} {p : Fin k → Bool} {n : Fin k} (has : p n = true) (before : ∀ m, m < n → p m = false) :
    (List.finRange k).find? p = some n := by
  rw [List.find?_eq_some_iff_getElem]
  refine ⟨has, n.val, by simp, by simp, fun j hj => ?_⟩
  rw [List.getElem_finRange]
  simp [before ⟨j, Nat.lt_trans hj n.isLt⟩ hj]

theorem find?_finRange_of_none {k : Nat} {p : Fin k → Bool} (never : ∀ m, p m = false) : (List.finRange k).find? p = none := by
  simp [List.find?_eq_none, never]

theorem governs_of_first {e : Engine} {r : Assembly} {n : Fin 8} (has : e.filters[n].matches e.masks r = true)
    (before : ∀ m : Fin 8, m < n → e.filters[m].matches e.masks r = false) :
    e.governs r = (e.filters[n].action, e.filters[n].report, n.val) := by
  rw [Engine.governs, find?_finRange_of_first has before]

theorem governs_of_none {e : Engine} {r : Assembly} (never : ∀ m : Fin 8, e.filters[m].matches e.masks r = false) :
    e.governs r = (e.default.action, e.default.report, 8) := by
  rw [Engine.governs, find?_finRange_of_none never]

theorem matches_iff (f : Sys2Proof.Machine.Filter) (masks : Vector FilterMask 4) (r : Assembly) :
    f.matches masks r = true ↔ f.enable = true
      ∧ (∀ i < 3, masks[f.mask].kind.getLsbD i = false → r.kind.getLsbD i = f.kind.getLsbD i)
      ∧ (∀ i < 4, masks[f.mask].route.getLsbD i = false → r.route.val.testBit i = f.route.getLsbD i)
      ∧ (∀ i < 2, masks[f.mask].segment.getLsbD i = false → r.segment.bits.getLsbD i = f.segment.getLsbD i) := by
  have route : (∀ i < 4, masks[f.mask].route.getLsbD i = false → (BitVec.ofNat 4 r.route.val).getLsbD i = f.route.getLsbD i)
      ↔ ∀ i < 4, masks[f.mask].route.getLsbD i = false → r.route.val.testBit i = f.route.getLsbD i :=
    forall₂_congr fun i hi => by rw [BitVec.getLsbD_ofNat, decide_eq_true hi, Bool.true_and]
  simp only [Filter.matches, Bool.and_eq_true, agrees_iff, and_assoc, route]

/-! ## The decision (R34, R41) -/

section
variable {s : State} {r : Assembly}

theorem decide_of_refuse (own : r.addressed s.line.settings.station = true) (refuse : (s.engine.governs r).1 = .refuse) :
    s.decide r = s.answer r (.nak .refused r.kind) := by
  simp [State.decide, own, refuse]

/-- The Record Accepted notice, where the governing filter asks for it. -/
def State.noteAccepted (s : State) (r : Assembly) (report : Bool) (filter : Nat) : State :=
  if report then s.post (.recordAccepted r.kind r.route filter) else s

theorem decide_of_act (own : r.addressed s.line.settings.station = true) (accept : (s.engine.governs r).1 = .accept)
    {act : RecordAction} (examined : s.examine r = .inr act) :
    let done := (s.act r (s.engine.governs r).2.2 act).noteAccepted r (s.engine.governs r).2.1 (s.engine.governs r).2.2
    s.decide r = done.answer r (if act = .poll then .status done else .ack) := by
  simp [State.decide, own, accept, examined, State.noteAccepted]

end

/-- Settles O31: the filters are searched from the first number, so the first that matches is the one found. -/
theorem firstMatchingFilterGoverns : Obligations.FirstMatchingFilterGoverns :=
  ⟨matches_iff, fun _ _ _ => governs_of_first, fun _ _ => governs_of_none, fun _ _ => decide_of_refuse,
    fun _ _ own accept => ⟨fun _ refused => decide_of_examine_refused own accept refused, fun _ examined => decide_of_act own accept examined⟩⟩

/-! ## The examination, kind by kind (R35 to R40) -/

section
variable {s : State} {r : Assembly}

theorem examine_reserved (kind : r.kind = 0 ∨ r.kind = 7) : s.examine r = .inl .kind := by
  rcases kind with kind | kind <;> simp [State.examine, kind]

theorem examine_routeUpper (low : r.kind ≠ 0) (high : r.kind ≠ 7) (upper : r.routeUpper = true) : s.examine r = .inl .badField := by
  have other : (decide (r.kind = 0) || decide (r.kind = 7)) = false := by rw [decide_eq_false low, decide_eq_false high]; rfl
  rw [State.examine, other, upper]
  rfl

variable (route : r.routeUpper = false)
include route

theorem examine_text (kind : r.kind = 1) :
    s.examine r = if s.rtq.length + r.payload.length ≤ 256 then .inr .text else .inl .busy := by
  simp only [State.examine, kind, route]
  rfl

theorem examine_store (kind : r.kind = 3) : s.examine r = match checkStore r.payload with
      | .short => .inl .length
      | .badField => .inl .badField
      | .ok w => if !s.store.permits w then .inl .denied else if !s.store.fits w then .inl .busy else .inr (.store w) := by
  simp only [State.examine, kind, route]
  rfl

theorem examine_poll (kind : r.kind = 4) : s.examine r = .inr .poll := by
  simp [State.examine, kind, route]

theorem examine_cancel (kind : r.kind = 5) : s.examine r = .inr .cancel := by
  simp [State.examine, kind, route]

theorem examine_message (kind : r.kind = 6) : s.examine r = if s.crq.length < 64 then .inr .message else .inl .busy := by
  have room : 0 < s.crqRoom ↔ s.crq.length < 64 := by
    simp only [State.crqRoom, Config.crqCap]
    omega
  simp [State.examine, kind, route, room]

end

theorem answer_of_answered {s : State} {r : Assembly} (other : r.station ≠ 31) (asked : r.ack = true ∨ r.kind = 4) (o : OutRecord) :
    s.answer r o = s.setEngine { s.engine with
      reply := some { record := o, readyAt := s.now + match s.line.settings.speed with
          | .sb300 => 200000
          | .ta1200 => 0 } } := by
  have answered : r.answered = true := by
    rw [Assembly.answered, Bool.and_eq_true, Bool.or_eq_true, beq_iff_eq, bne_iff_ne]
    exact ⟨other, asked⟩
  rw [State.answer, if_pos answered]
  rfl

theorem answer_of_not_answered {s : State} {r : Assembly} (no : r.station = 31 ∨ (r.ack = false ∧ r.kind ≠ 4)) (o : OutRecord) :
    s.answer r o = s := by
  have silent : r.answered = false := by
    rcases no with all | ⟨noAck, noPoll⟩
    · simp [Assembly.answered, all]
    · rw [Assembly.answered, noAck, beq_eq_false_iff_ne.mpr noPoll, Bool.or_false, Bool.and_false]
  rw [State.answer, silent]
  rfl

/-- Settles O32: the examination of each kind, then the refusal or the action. -/
theorem acceptedRecordActs : Obligations.AcceptedRecordActs := by
  refine ⟨fun s r own accept => ?acts, fun s r o => ⟨fun ⟨other, asked⟩ => answer_of_answered other asked o,
    fun no => answer_of_not_answered no o⟩, fun st => ⟨fun _ _ => rfl, fun _ _ => rfl, fun _ _ => rfl, fun _ _ => rfl,
    fun _ _ => rfl, fun _ _ => rfl, fun _ _ => rfl, fun _ _ => rfl⟩⟩
  intro n note
  have refused {reason : Reason} (examined : s.examine r = .inl reason) : s.decide r = s.answer r (.nak reason r.kind) :=
    decide_of_examine_refused own accept examined
  have acted {act : RecordAction} (examined : s.examine r = .inr act) :
      s.decide r = (note (s.act r n act)).answer r (if act = .poll then .status (note (s.act r n act)) else .ack) :=
    decide_of_act own accept examined
  refine ⟨fun kind => refused (examine_reserved kind), fun low high upper => refused (examine_routeUpper low high upper),
    fun route => ⟨?_, ?_, ?_, ?_, ?_, ?_, fun w kind checked => ⟨?_, ?_, ?_⟩, ?_, ?_, ?_, ?_⟩⟩
  · exact fun kind room => acted ((examine_text route kind).trans (if_pos room))
  · exact fun kind full => kind ▸ refused ((examine_text route kind).trans (if_neg (Nat.not_le.mpr full)))
  · exact fun kind fits => acted ((examine_print route kind).trans (if_pos fits))
  · exact fun kind noRoom => kind ▸ refused ((examine_print route kind).trans (if_neg (by simp [noRoom])))
  · exact fun kind short => kind ▸ refused ((examine_store route kind).trans (by rw [short]))
  · exact fun kind bad => kind ▸ refused ((examine_store route kind).trans (by rw [bad]))
  · exact fun denied => kind ▸ refused ((examine_store route kind).trans (by simp [checked, denied]))
  · exact fun permitted noRoom => kind ▸ refused ((examine_store route kind).trans (by simp [checked, permitted, noRoom]))
  · exact fun permitted fits => acted (act := .store w) ((examine_store route kind).trans (by simp [checked, permitted, fits]))
  · exact fun kind => acted (examine_poll route kind)
  · exact fun kind => acted (examine_cancel route kind)
  · exact fun kind room => acted ((examine_message route kind).trans (if_pos room))
  · exact fun kind full => kind ▸ refused ((examine_message route kind).trans (if_neg (Nat.not_lt.mpr full)))

end Sys2Proof.Machine
end

section
/-!
SUPPORT. CONFIG FLOW, SEND TEXT and SEND BREAK, and the comparison of the flow state by its table (R47, R48, R57, R58); the Transmit Slots (R51 to R54).
-/

namespace Sys2Proof.Machine

/-! ## Flow control (R57, R58) -/

theorem flowSettings?_of_fields {p : List Byte} {enable : Bool} (flag : flag? (byteAt p 0) = some enable) :
    let high := max 1 (min 256 (wordAt p 1))
    let low := min 255 (wordAt p 3)
    flowSettings? p = some { enable := enable, high := high, low := if low < high then low else high - 1
                             holdCode := byteAt p 5, resumeCode := byteAt p 6 } := by
  simp [flowSettings?, flag, clamp]

theorem flowSettings?_of_past {p : List Byte} (past : 2 ≤ (byteAt p 0).toNat) : flowSettings? p = none := by
  simp [flowSettings?, flag?_of_past past]

theorem connected_iff (l : Line) : l.connected = true ↔ l.state = .online ∨ l.state = .fade := by
  simp [Line.connected]

theorem flowCompare_of_connected {s : State} (connected : s.line.connected = true) : s.flowCompare
    = s.setTx { s.tx with flow := nextFlow s.tx.flowSettings s.tx.progress.isFlow s.rtq.length s.tx.flow } := if_pos connected

theorem flowCompare_of_not_connected {s : State} (off : s.line.connected = false) : s.flowCompare = s := if_neg (by simp [off])

theorem isFlow_iff (x : Progress) : x.isFlow = true ↔ ∃ code start, x = .char code true start := by
  cases x <;> simp [Progress.isFlow]

/-! The table of R58, row by row. -/

section
variable {f : FlowSettings} {fill : Nat}

theorem nextFlow_flowing (chosen : Bool) :
    (f.enable = true → f.high ≤ fill → nextFlow f chosen fill .flowing = .holdPending)
    ∧ (f.enable = false ∨ fill < f.high → nextFlow f chosen fill .flowing = .flowing) := by
  refine ⟨fun on high => by simp [nextFlow, on, high], fun stays => ?_⟩
  rcases stays with off | low
  · simp [nextFlow, off]
  · simp [nextFlow, Nat.not_le.mpr low]

theorem nextFlow_holdPending :
    nextFlow f true fill .holdPending = .holdPending
    ∧ (f.enable = false ∨ fill < f.high → nextFlow f false fill .holdPending = .flowing)
    ∧ (f.enable = true → f.high ≤ fill → nextFlow f false fill .holdPending = .holdPending) := by
  refine ⟨rfl, fun moves => ?_, fun on high => by simp [nextFlow, on, Nat.not_lt.mpr high]⟩
  rcases moves with off | low
  · simp [nextFlow, off]
  · simp [nextFlow, low]

theorem nextFlow_held (chosen : Bool) :
    (f.enable = false ∨ fill ≤ f.low → nextFlow f chosen fill .held = .resumePending)
    ∧ (f.enable = true → f.low < fill → nextFlow f chosen fill .held = .held) := by
  refine ⟨fun moves => ?_, fun on above => by simp [nextFlow, on, Nat.not_le.mpr above]⟩
  rcases moves with off | low
  · simp [nextFlow, off]
  · simp [nextFlow, low]

theorem nextFlow_resumePending :
    nextFlow f true fill .resumePending = .resumePending
    ∧ (∀ chosen, f.enable = false ∨ fill ≤ f.low → nextFlow f chosen fill .resumePending = .resumePending)
    ∧ (f.enable = true → f.low < fill → nextFlow f false fill .resumePending = .held) := by
  refine ⟨rfl, fun chosen stays => ?_, fun on above => by simp [nextFlow, on, above]⟩
  rcases stays with off | low
  · simp [nextFlow, off]
  · simp [nextFlow, Nat.not_lt.mpr low]

end

theorem requestBreak_of_connected {s : State} (connected : s.line.state = .online ∨ s.line.state = .fade) :
    s.requestBreak = s.setTx { s.tx with breakPending := true } := if_pos ((connected_iff _).mpr connected)

theorem requestBreak_of_not_connected {s : State} (notOnline : s.line.state ≠ .online) (notFade : s.line.state ≠ .fade) :
    s.requestBreak = s := if_neg (mt (connected_iff _).mp (not_or.mpr ⟨notOnline, notFade⟩))

/-- A SEND TEXT fits as a whole, and the empty one at every fill. -/
theorem ttqRoom_iff (s : State) (p : List Byte) : p.length ≤ s.ttqRoom ↔ s.tx.ttq.length + p.length ≤ 128 ∨ p = [] := by
  rw [← List.length_eq_zero_iff]
  simp only [State.ttqRoom, Config.ttqCap]
  omega

/-! ## A delivery in full (R74, R75, R99, R101) -/

theorem markDrop_eq (s : State) (dropped : Bool) (r : Fin 16) : s.markDrop dropped r
    = (s.setStore (if dropped then s.store.setRoute r { s.store.route r with overflow := true } else s.store)).setPort
        (s.port.raisedIf dropped .routeOverflow) := by
  cases dropped <;> rfl

/-- The units of a delivery's sinks, and the mark of what was dropped. -/
theorem deliver_eq (s : State) (p : PortId) (r : Fin 16) (codes : List Byte) (substituted : Bool) :
    let e := s.store.route r
    let room := sinkRoom s p e codes.length
    let dropped := !(room.1 && room.2.1 && room.2.2)
    s.deliver p r codes substituted = ((((s.setArb (if e.print && room.1 then
          s.arb.setPort p ((s.arb.port p).putCells s.now (codes.map fun c => .char c e.style)) else s.arb)).setTx
        { s.tx with ttq := if e.transmit && room.2.1 then s.tx.ttq ++ codes else s.tx.ttq }).setCrq
          (if e.controller && room.2.2 then s.crq ++ codes.map fun c => .character r c substituted else s.crq)).setStore
            (if dropped then s.store.setRoute r { e with overflow := true } else s.store)).setPort
              (s.port.raisedIf dropped .routeOverflow) := by
  intro e room dropped
  have stages : s.deliver p r codes substituted = (((s.toPrint (e.print && room.1) p e.style codes).toTransmit (e.transmit && room.2.1)
      codes).toController (e.controller && room.2.2) r codes substituted).markDrop dropped r := rfl
  rw [stages, toPrint_eq, toTransmit_eq, toController_eq, markDrop_eq]
  rfl

theorem flowCompare_flow (s : State) : s.flowCompare.tx.flow = if s.line.connected then
    nextFlow s.tx.flowSettings s.tx.progress.isFlow s.rtq.length s.tx.flow else s.tx.flow := by
  unfold State.flowCompare
  split <;> rfl

theorem routeHead_of_cons {s : State} {c : TextCell} {rest : List TextCell} (head : s.rtq = c :: rest) :
    s.routeHead = ((s.setRtq rest).deliver .p0 c.route [s.deliveredCode c] c.substituted).flowCompare := by
  rw [State.routeHead, head]

/-- The flow state after the Router's take is that of the comparison at the new fill. -/
theorem routeHead_flow {s : State} {c : TextCell} {rest : List TextCell} (head : s.rtq = c :: rest) :
    s.routeHead.tx.flow = (s.setRtq rest).flowCompare.tx.flow := by
  rw [routeHead_of_cons head, flowCompare_flow, flowCompare_flow, deliver_eq]
  rfl

/-- Settles O33: the commands by their bodies, the comparison by the rows of its table. -/
theorem transmitCommandsActAndFlowCompares : Obligations.TransmitCommandsActAndFlowCompares := by
  refine ⟨⟨rfl, rfl, fun _ => flag?_of_past⟩, fun p s short => ?commands, fun s => ?compare, fun s c rest head => routeHead_flow head⟩
  case commands =>
    intro w
    have sendText : sendTextBody p w = if p.length ≤ w.ttqRoom then (w.pushTtq p).done [] else w.refuse .full := rfl
    have fits : p.length ≤ w.ttqRoom ↔ s.tx.ttq.length + p.length ≤ 128 ∨ p = [] := by rw [ttqRoom_iff, wake_tx]
    have line : w.line = s.line := wake_line _ _
    refine ⟨fun present past => ?_, fun present enable flag => ?_, fun room => ?_, fun noRoom some => ?_, fun connected => ?_,
      fun notOnline notFade => ?_⟩
    · exact completes_of_portBody rfl present short (field_none (flowSettings?_of_past past) _ _)
    · exact completes_of_portBody rfl present short (field_some (flowSettings?_of_fields flag) _ _)
    · exact completes_of_portBody (c := .sendText p) rfl (Nat.zero_le _) short (sendText.trans (if_pos (fits.mpr room)))
    · exact completes_of_portBody (c := .sendText p) rfl (Nat.zero_le _) short
        (sendText.trans (if_neg (mt fits.mp (not_or.mpr ⟨Nat.not_le.mpr noRoom, some⟩))))
    · exact completes_of_portBody (c := .sendBreak p) rfl (Nat.zero_le _) short
        (congrArg (State.done · []) (requestBreak_of_connected (line ▸ connected)))
    · exact completes_of_portBody (c := .sendBreak p) rfl (Nat.zero_le _) short
        (congrArg (State.done · []) (requestBreak_of_not_connected (line ▸ notOnline) (line ▸ notFade)))
  case compare =>
    intro f fill onLine becomes
    refine ⟨fun notOnline notFade => ?_, fun connected => ?_⟩
    · refine flowCompare_of_not_connected ?_
      simpa using mt (connected_iff _).mp (not_or.mpr ⟨notOnline, notFade⟩)
    · have compares {x : FlowState} (next : nextFlow f s.tx.progress.isFlow fill s.tx.flow = x) : becomes x := by
        show s.flowCompare = _
        rw [flowCompare_of_connected ((connected_iff _).mpr connected)]
        exact congrArg (fun y => s.setTx { s.tx with flow := y }) next
      have chosen (h : onLine) : s.tx.progress.isFlow = true := (isFlow_iff _).mpr h
      have free (h : ¬ onLine) : s.tx.progress.isFlow = false := by simpa using mt (isFlow_iff _).mp h
      refine ⟨fun flow => ?_, fun flow => ?_, fun flow => ?_, fun flow => ?_⟩
      · rw [flow] at compares
        exact ⟨fun on high => compares ((nextFlow_flowing _).1 on high), fun stays => compares ((nextFlow_flowing _).2 stays)⟩
      · rw [flow] at compares
        obtain ⟨sent, moves, waits⟩ := nextFlow_holdPending (f := f) (fill := fill)
        exact ⟨fun h => compares (by rw [chosen h]; exact sent), fun h away => compares (by rw [free h]; exact moves away),
          fun h on high => compares (by rw [free h]; exact waits on high)⟩
      · rw [flow] at compares
        exact ⟨fun moves => compares ((nextFlow_held _).1 moves), fun on above => compares ((nextFlow_held _).2 on above)⟩
      · rw [flow] at compares
        obtain ⟨sent, stays, back⟩ := nextFlow_resumePending (f := f) (fill := fill)
        refine ⟨fun h => ?_, fun h on above => compares (by rw [free h]; exact back on above)⟩
        rcases h with h | h
        · exact compares (by rw [chosen h]; exact sent)
        · exact compares (stays _ h)

/-! ## Transmit Slots (R51 to R54) -/

theorem loadable_iff (x : SlotState) : x.loadable = true ↔ x ≠ .requested ∧ x ≠ .sending := by cases x <;> simp [SlotState.loadable]

theorem requestable_iff (x : SlotState) : x.requestable = true ↔ x = .loaded ∨ x = .sent ∨ x = .aborted := by
  cases x <;> simp [SlotState.requestable]

theorem lengthCode?_isSome_iff (n : Nat) : (lengthCode? n).isSome = true ↔ n ∈ [0, 2, 4, 8, 12, 16, 32, 48] := by
  simp only [lengthCode?, List.mem_cons, List.not_mem_nil, or_false]
  repeat' split
  all_goals simp_all

section
variable {p : List Byte}

theorem slotRecord?_of_fields {route : Fin 16} {segment : Segment} (hroute : fin? 16 (byteAt p 1) = some route)
    (hsegment : segment? (byteAt p 2) = some segment) (length : p.length - 3 ∈ [0, 2, 4, 8, 12, 16, 32, 48]) :
    slotRecord? p = some { state := .loaded, route := route, segment := segment, payload := p.drop 3, abortNoted := false } := by
  have coded : (lengthCode? (p.length - 3)).isSome = true := (lengthCode?_isSome_iff _).mpr length
  obtain ⟨code, is⟩ := Option.isSome_iff_exists.mp coded
  simp [slotRecord?, hroute, hsegment, is]

theorem slotRecord?_of_bad (bad : 16 ≤ (byteAt p 1).toNat ∨ 4 ≤ (byteAt p 2).toNat ∨ ¬ p.length - 3 ∈ [0, 2, 4, 8, 12, 16, 32, 48]) :
    slotRecord? p = none := by
  rcases bad with past | past | length
  · simp [slotRecord?, fin?_of_past past]
  · simp [slotRecord?, segment?_of_out_of_range past]
  · have uncoded : lengthCode? (p.length - 3) = none := by
      rw [← Option.not_isSome_iff_eq_none]
      exact mt (lengthCode?_isSome_iff _).mp length
    simp [slotRecord?, uncoded]

variable {n : Fin 4} (number : fin? 4 (byteAt p 0) = some n) (s : State)
include number

theorem loadSlotBody_of_number : loadSlotBody p s = if s.tx.slots[n].state.loadable then
      field (slotRecord? p) (fun x s => (s.setSlot n x).done []) s else s.refuse .busy := field_some number _ s

theorem requestSlotBody_of_number : requestSlotBody p s = if s.tx.slots[n].state.requestable then
      (s.setSlot n { s.tx.slots[n] with state := .requested }).done [] else s.refuse .busy := field_some number _ s

theorem abortSlotBody_of_number : abortSlotBody p s = (s.abortSlot n).done [] := field_some number _ s

end

section
variable {s : State} {n : Fin 4}

theorem abortSlot_of_requested (requested : s.tx.slots[n].state = .requested) :
    s.abortSlot n = (s.setSlot n { s.tx.slots[n] with state := .aborted }).post (.slotDone n .aborted) := by
  rw [State.abortSlot, requested]

theorem abortSlot_of_sending (sending : s.tx.slots[n].state = .sending) :
    s.abortSlot n = s.setSlot n { s.tx.slots[n] with abortNoted := true } := by
  rw [State.abortSlot, sending]

theorem abortSlot_of_other (notRequested : s.tx.slots[n].state ≠ .requested) (notSending : s.tx.slots[n].state ≠ .sending) :
    s.abortSlot n = s := by
  unfold State.abortSlot
  split
  case h_1 requested => exact absurd requested notRequested
  case h_2 sending => exact absurd sending notSending
  all_goals rfl

end

/-- Settles O34: the number, then the slot's state, then the other fields. -/
theorem slotCommandsAct : Obligations.SlotCommandsAct := by
  refine ⟨⟨rfl, fun _ => segment?_of_out_of_range⟩, fun _ _ _ => fin?_eq_some_iff, fun p s one short => ?_⟩
  intro w
  refine ⟨fun past => ⟨fun present => ?_, ?_, ?_⟩, fun n number => ?_⟩
  · exact completes_of_portBody rfl present short (field_none (fin?_of_past past) _ _)
  · exact completes_of_portBody rfl one short (field_none (fin?_of_past past) _ _)
  · exact completes_of_portBody rfl one short (field_none (fin?_of_past past) _ _)
  intro x put
  have slot : w.tx.slots[n] = x := by
    show (s.wake .command).tx.slots[n] = s.tx.slots[n]
    rw [wake_tx]
  have puts (y : Slot) : w.setSlot n y = put y := rfl
  have load := loadSlotBody_of_number number w
  have request := requestSlotBody_of_number number w
  have abort := abortSlotBody_of_number number w
  rw [slot] at load request
  refine ⟨fun present busy => ?_, fun present notRequested notSending bad => ?_,
    fun present notRequested notSending route segment hroute hsegment length => ?_, fun ready => ?_, fun notReady => ?_,
    fun requested => ?_, fun sending => ?_, fun notRequested notSending => ?_⟩
  · refine completes_of_portBody rfl present short (load.trans (if_neg ?_))
    rw [loadable_iff]
    rcases busy with state | state <;> simp [state]
  · exact completes_of_portBody rfl present short ((load.trans (if_pos ((loadable_iff _).mpr ⟨notRequested, notSending⟩))).trans
      (field_none (slotRecord?_of_bad bad) _ _))
  · exact completes_of_portBody rfl present short ((load.trans (if_pos ((loadable_iff _).mpr ⟨notRequested, notSending⟩))).trans
      (field_some (slotRecord?_of_fields hroute hsegment length) _ _))
  · exact completes_of_portBody rfl one short (request.trans (if_pos ((requestable_iff _).mpr ready)))
  · refine completes_of_portBody rfl one short (request.trans (if_neg ?_))
    rw [requestable_iff]
    rcases notReady with state | state | state <;> simp [state]
  · rw [abortSlot_of_requested (by rw [slot]; exact requested), slot] at abort
    exact completes_of_portBody rfl one short abort
  · rw [abortSlot_of_sending (by rw [slot]; exact sending), slot] at abort
    exact completes_of_portBody rfl one short abort
  · rw [abortSlot_of_other (by rw [slot]; exact notRequested) (by rw [slot]; exact notSending)] at abort
    exact completes_of_portBody rfl one short abort

end Sys2Proof.Machine
end

section
/-!
SUPPORT. The bits of an item on the line, the items of a record and the records of the replies (R2, R24, R41, R49); the end of an item (R44, R53, R59); the choice of the next one (R45).
-/

namespace Sys2Proof.Machine

/-! ## Bits of an item (R2, R48) -/

theorem frameBits_f8N1 (c : Byte) : frameBits .f8N1 c
    = [false, c.getLsbD 0, c.getLsbD 1, c.getLsbD 2, c.getLsbD 3, c.getLsbD 4, c.getLsbD 5, c.getLsbD 6, c.getLsbD 7, true] := rfl

theorem frameBits_of_7bit {f : Format} (seven : f ≠ .f8N1) (c : Byte) : frameBits f c
    = [false, c.getLsbD 0, c.getLsbD 1, c.getLsbD 2, c.getLsbD 3, c.getLsbD 4, c.getLsbD 5, c.getLsbD 6, parityBit f c, true] := by
  cases f with
  | f8N1 => exact absurd rfl seven
  | f7E1 | f7O1 => rfl

/-- In every format ten bits: start, data, the eighth bit or the parity, stop. -/
theorem frameBits_eq (f : Format) (c : Byte) : ∃ last : Bool, frameBits f c
    = [false, c.getLsbD 0, c.getLsbD 1, c.getLsbD 2, c.getLsbD 3, c.getLsbD 4, c.getLsbD 5, c.getLsbD 6, last, true]
    ∧ (f = .f8N1 → last = c.getLsbD 7) ∧ (f ≠ .f8N1 → last = parityBit f c) := by
  by_cases eight : f = .f8N1
  · subst eight
    exact ⟨_, frameBits_f8N1 c, fun _ => rfl, fun seven => absurd rfl seven⟩
  · exact ⟨_, frameBits_of_7bit eight c, fun h => absurd h eight, fun _ => rfl⟩

theorem count_data_and_parity (c : Byte) (last : Bool) :
    [c.getLsbD 0, c.getLsbD 1, c.getLsbD 2, c.getLsbD 3, c.getLsbD 4, c.getLsbD 5, c.getLsbD 6, last].count true
      = ((List.range 7).map c.getLsbD).count true + [last].count true := by
  rw [← List.count_append]
  rfl

/-- With its parity bit a code has an even number of ones in 7E1, an odd one in 7O1. -/
theorem parity_of_frame (c : Byte) :
    (((List.range 7).map c.getLsbD).count true + [parityBit .f7E1 c].count true) % 2 = 0
    ∧ (((List.range 7).map c.getLsbD).count true + [parityBit .f7O1 c].count true) % 2 = 1 := by
  simp only [parityBit, parityOf_eq_count]
  generalize ((List.range 7).map c.getLsbD).count true = ones
  by_cases odd : ones % 2 = 1
  · simp [odd]; omega
  · simp [odd]; omega

theorem lineBits_char (f : Format) (c : Byte) : let bits := TxItem.lineBits f (.char c)
    bits.length = 10 ∧ bits[0]? = some false ∧ bits[9]? = some true
    ∧ (∀ i : Nat, i < 7 → bits[i + 1]? = some (c.getLsbD i))
    ∧ (f = .f8N1 → bits[8]? = some (c.getLsbD 7))
    ∧ (f = .f7E1 → ((bits.drop 1).take 8).count true % 2 = 0)
    ∧ (f = .f7O1 → ((bits.drop 1).take 8).count true % 2 = 1) := by
  obtain ⟨last, bits, eight, seven⟩ := frameBits_eq f c
  obtain ⟨even, odd⟩ := parity_of_frame c
  rw [TxItem.lineBits, bits]
  refine ⟨rfl, rfl, rfl, fun i low => ?_, fun format => congrArg some (eight format), fun format => ?_, fun format => ?_⟩
  · match i, low with
    | 0, _ | 1, _ | 2, _ | 3, _ | 4, _ | 5, _ | 6, _ => rfl
  · subst format
    rw [seven nofun]
    exact (congrArg (· % 2) (count_data_and_parity c _)).trans even
  · subst format
    rw [seven nofun]
    exact (congrArg (· % 2) (count_data_and_parity c _)).trans odd

theorem lineBits_length (f : Format) (item : TxItem) : (item.lineBits f).length = 10 * item.chars := by
  cases item with
  | brk => rfl
  | char c => exact (lineBits_char f c).1

/-! ## The items of a record (R24, R49) -/

theorem lengthCode?_payloadLength : ∀ len : BitVec 3, lengthCode? (payloadLength len) = some len := by decide

theorem routeByte_toNat (r : Fin 16) (seg : Segment) : (routeByte r seg).toNat = r.val + 16 * seg.bits.toNat := by
  have route := r.isLt
  have bits := seg.bits.isLt
  rw [routeByte, BitVec.toNat_ofNat]
  omega

theorem frameRecord_eq {station : Fin 31} {r : OutRecord} {len : BitVec 3} (length : payloadLength len = r.payload.length) :
    frameRecord station r
      = let covered := headerByte r.kind len :: BitVec.ofNat 8 station.val :: routeByte r.route r.segment :: r.payload
        let crc := covered.foldl crcByte 0xFFFF
        .brk :: .char 0xC3 :: covered.map TxItem.char ++ [.char (crc.extractLsb' 0 8), .char (crc.extractLsb' 8 8)] := by
  have code : (lengthCode? r.payload.length).getD 0 = len := by rw [← length, lengthCode?_payloadLength, Option.getD_some]
  rw [frameRecord, code]
  simp [crcOf, crcPreset, markerCode]

theorem frameRecord_chars (station : Fin 31) (r : OutRecord) :
    ((frameRecord station r).map TxItem.chars).sum = r.payload.length + 8 := by
  have ones (l : List Byte) : ((l.map TxItem.char).map TxItem.chars).sum = l.length := by
    induction l with
    | nil => rfl
    | cons c l ih =>
      simp only [List.map_cons, List.sum_cons, ih, List.length_cons, TxItem.chars]
      omega
  rw [frameRecord, List.map_cons, List.sum_cons, ones]
  simp only [TxItem.chars, List.length_append, List.length_cons, List.length_nil]
  omega

/-! ## The end of an item (R44, R53, R59) -/

section
variable {s : State} {start : Nat}

/-- The item on the line ends at its moment. -/
theorem completes_transmitItemEnd {t : Nat} (ends : s.itemEnd = some t) : Completes .transmitItemEnd s (s.reach t).endItem :=
  completes_of_expiry (c := .transmitItemEnd) (f := State.endItem) rfl ends

theorem itemEnd_of_char {code : Byte} {flow : Bool} (progress : s.tx.progress = .char code flow start) :
    s.itemEnd = some (start + 10 * bitTime s.line.settings.speed) := by
  rw [State.itemEnd, progress]
  rfl

theorem itemEnd_of_brk (progress : s.tx.progress = .brk start) :
    s.itemEnd = some (start + 2 * (10 * bitTime s.line.settings.speed)) := by
  rw [State.itemEnd, progress]
  rfl

theorem itemEnd_of_record {source : TxSource} {items : List TxItem} {pos : Nat} {item : TxItem}
    (progress : s.tx.progress = .record source items pos (some start)) (at_pos : items[pos]? = some item) :
    s.itemEnd = some (start + item.chars * (10 * bitTime s.line.settings.speed)) := by
  rw [State.itemEnd, progress]
  simp only [at_pos, Option.getD_some, Option.map_some, charTime]

theorem endItem_of_char {code : Byte} (progress : s.tx.progress = .char code false start) :
    s.endItem = s.setTx { s.tx with progress := .idle } := by
  rw [State.endItem, progress]
  rfl

theorem endItem_of_flow {code : Byte} (progress : s.tx.progress = .char code true start) :
    s.endItem = (s.setTx { s.tx with progress := .idle, flow := flowSent s.tx.flow }).flowCompare := by
  rw [State.endItem, progress]
  rfl

theorem endItem_of_brk (progress : s.tx.progress = .brk start) : s.endItem = s.setTx { s.tx with progress := .idle } := by
  rw [State.endItem, progress]
  rfl

variable {source : TxSource} {items : List TxItem} {pos : Nat}

theorem endItem_of_record (progress : s.tx.progress = .record source items pos (some start)) : s.endItem
    = if pos + 1 < items.length then s.setTx { s.tx with progress := .record source items (pos + 1) none }
      else (s.setTx { s.tx with progress := .idle }).recordSent source := by
  rw [State.endItem, progress]
  rfl

end

/-- Settles O35: the bits, the items and the replies by their definitions, the end of an item by what is on the line. -/
theorem itemEndFreesTransmitter : Obligations.ItemEndFreesTransmitter := by
  refine ⟨rfl, lineBits_char, fun _ => rfl, lineBits_length, fun station r len length => ?items, by decide,
    ⟨rfl, fun _ _ => rfl, rfl, fun s => ?status⟩, fun s start => ?ends⟩
  case items =>
    obtain ⟨ok, kind, code⟩ := headerByte_reads_back r.kind len
    exact ⟨_, _, ok, kind, code, routeByte_toNat .., frameRecord_eq length, frameRecord_chars station r⟩
  case status =>
    have first : s.statusResponse.take 16 = s.statusBytes := by
      rw [State.statusResponse, List.append_assoc]
      exact List.take_left' rfl
    rw [first]
    rfl
  case ends =>
    intro c free
    refine ⟨fun code progress => ?_, fun progress => ?_, fun code progress => ⟨fun flow => ?_, fun flow => ?_⟩,
      fun source items pos progress item at_pos => ?_⟩
    · have completes := completes_transmitItemEnd (itemEnd_of_char progress)
      rwa [endItem_of_char (s := s.reach _) progress] at completes
    · have completes := completes_transmitItemEnd (itemEnd_of_brk progress)
      rwa [endItem_of_brk (s := s.reach _) progress] at completes
    · have completes := completes_transmitItemEnd (itemEnd_of_char progress)
      have flow : (s.reach (start + c)).tx.flow = .holdPending := flow
      rwa [endItem_of_flow (s := s.reach _) progress, flow] at completes
    · have completes := completes_transmitItemEnd (itemEnd_of_char progress)
      have flow : (s.reach (start + c)).tx.flow = .resumePending := flow
      rwa [endItem_of_flow (s := s.reach _) progress, flow] at completes
    · intro u
      have completes := completes_transmitItemEnd (itemEnd_of_record progress at_pos)
      rw [endItem_of_record (s := s.reach _) progress] at completes
      refine ⟨fun more => by rwa [if_pos more] at completes, fun last reply => ?_, fun n last slot => ?_⟩
      · subst reply
        rwa [if_neg (by omega)] at completes
      · subst slot
        rwa [if_neg (by omega)] at completes

/-! ## The choice (R45) -/

section
variable {s : State}

theorem replyReady_iff : s.replyReady = true ↔ ∃ r, s.engine.reply = some r ∧ r.readyAt ≤ s.now := by
  unfold State.replyReady
  cases s.engine.reply <;> simp

theorem requestedSlot_of_first {n : Fin 4} (format : s.line.settings.format = .f8N1) (requested : s.tx.slots[n].state = .requested)
    (before : ∀ m : Fin 4, m < n → s.tx.slots[m].state ≠ .requested) : s.requestedSlot = some n := by
  rw [State.requestedSlot, if_pos format]
  exact find?_finRange_of_first (beq_iff_eq.mpr requested) fun m lower => beq_eq_false_iff_ne.mpr (before m lower)

theorem requestedSlot_of_none (none : ¬ (s.line.settings.format = .f8N1 ∧ ∃ n : Fin 4, s.tx.slots[n].state = .requested)) :
    s.requestedSlot = .none := by
  unfold State.requestedSlot
  split
  · next format =>
    exact find?_finRange_of_none fun m => beq_eq_false_iff_ne.mpr fun requested => none ⟨format, m, requested⟩
  · rfl

/-- The order of the sources, once the flow characters are out of the way. -/
theorem source_of_not_flow (flow : ¬ (s.tx.flow = .holdPending ∨ s.tx.flow = .resumePending)) : s.source
    = if s.tx.breakPending then some .brk else if s.replyReady then some .reply
      else match s.requestedSlot with
        | some n => some (.slot n)
        | none => if s.tx.ttq.isEmpty then none else some .text := by
  unfold State.source
  exact if_neg (by simpa using flow)

theorem source_of_rest (flow : ¬ (s.tx.flow = .holdPending ∨ s.tx.flow = .resumePending)) (mark : s.tx.breakPending = false)
    (wait : ¬ ∃ r, s.engine.reply = some r ∧ r.readyAt ≤ s.now) : s.source = match s.requestedSlot with
        | some n => some (.slot n)
        | none => if s.tx.ttq.isEmpty then none else some .text := by
  rw [source_of_not_flow flow, if_neg (by simp [mark]), if_neg (mt replyReady_iff.mp wait)]

theorem mayBegin_iff (l : Line) : l.mayBegin = true ↔ l.state = .online ∧ (l.settings.speed = .sb300 ∨ l.direction = some .talking) := by
  simp [Line.mayBegin]

/-- Where an item may begin and neither the take nor the release of the line goes before. -/
theorem txAct_of_mayBegin (may : s.line.mayBegin = true)
    (noRelease : s.line.settings.speed = .ta1200 → s.tx.progress = .idle → s.hasWork = true ∧ s.talkPassed = false) :
    s.txAct = if s.tx.progress.waits then some .resume else if s.tx.progress = .idle then s.source.map .choose else none := by
  obtain ⟨online, side⟩ := (mayBegin_iff _).mp may
  have notListening : (s.line.settings.speed = .ta1200 && s.line.direction = some .listening) = false := by
    rcases side with speed | talking
    · simp [speed]
    · simp [talking]
  have stays : (s.line.settings.speed = .ta1200 && s.line.direction = some .talking && s.tx.progress = .idle
      && (!s.hasWork || s.talkPassed)) = false := by
    by_cases idle : s.line.settings.speed = .ta1200 ∧ s.tx.progress = .idle
    · simp [noRelease idle.1 idle.2]
    · rw [Classical.not_and_iff_not_or_not] at idle
      rcases idle with speed | busy
      · simp [speed]
      · simp [busy]
  rw [State.txAct, if_pos online, notListening, stays, if_neg Bool.false_ne_true, if_neg Bool.false_ne_true, if_pos may]

/-- A source is work for the transmitter. -/
theorem hasWork_of_source {src : Source} (some : s.source = .some src) : s.hasWork = true := by
  rw [hasWork_iff]
  by_cases flow : s.tx.flow = .holdPending ∨ s.tx.flow = .resumePending
  · rcases flow with hold | resume
    · exact .inl hold
    · exact .inr (.inl resume)
  · refine Classical.byContradiction fun noWork => ?_
    simp only [not_or, ne_eq, Classical.not_not] at noWork
    obtain ⟨-, -, mark, reply, slots, ttq, -⟩ := noWork
    have wait : ¬ ∃ r, s.engine.reply = .some r ∧ r.readyAt ≤ s.now := by simp [reply]
    rw [source_of_rest flow (by simpa using mark) wait, requestedSlot_of_none slots, ttq] at some
    cases some

theorem choose_of_txAct {src : Source} (act : s.txAct = some (.choose src)) : s.tx.progress = .idle ∧ s.source = some src
    ∧ s.line.mayBegin = true := by
  unfold State.txAct at act
  split at act
  · split at act
    · split at act <;> simp at act
    · split at act
      · simp at act
      · split at act
        · next may =>
          split at act
          · simp at act
          · split at act
            · next idle =>
              refine ⟨idle, ?_, may⟩
              simpa using act
            · simp at act
        · simp at act
  · simp at act

theorem waits_of_record {source : TxSource} {items : List TxItem} {pos : Nat} (progress : s.tx.progress = .record source items pos none) :
    s.tx.progress.waits = true := by rw [progress]; rfl

theorem txAct_of_idle (may : s.line.mayBegin = true) (idle : s.tx.progress = .idle)
    (noRelease : s.line.settings.speed = .ta1200 → s.hasWork = true ∧ s.talkPassed = false) : s.txAct = s.source.map .choose := by
  rw [txAct_of_mayBegin may fun speed _ => noRelease speed, if_neg (by simp [idle, Progress.waits]), if_pos idle]

/-! What the choice begins. -/

theorem begin_flow (s : State) : s.begin .flow = s.startProgress
    (.char (if s.tx.flow = .holdPending then s.tx.flowSettings.holdCode else s.tx.flowSettings.resumeCode) true s.now) := rfl

theorem begin_reply {r : Reply} (reply : s.engine.reply = some r) : s.begin .reply
    = (s.setEngine { s.engine with reply := none }).startProgress
        (.record .reply (frameRecord s.line.settings.station r.record) 0 (some s.now)) := by
  simp only [State.begin, reply]

theorem begin_text {c : Byte} {rest : List Byte} (ttq : s.tx.ttq = c :: rest) :
    s.begin .text = s.setTx { s.tx with ttq := rest, progress := .char c false s.now } := by
  simp only [State.begin, ttq]

end

/-- Settles O36: the sources in their order, when the choice is made, and what it begins. -/
theorem transmitterChoosesInOrder : Obligations.TransmitterChoosesInOrder := by
  intro s flow ready slots
  have gone (noReady : ¬ ready) := source_of_rest (s := s) (wait := noReady)
  refine ⟨fun pending => ?_, fun noFlow brk => ?_, fun noFlow mark reply => ?_,
    fun n noFlow mark wait format requested before => ?_, fun noFlow mark wait noSlot some => ?_, fun noFlow mark wait noSlot none => ?_,
    fun src act => ?_, fun src online speed idle source => ⟨?_, rfl⟩, fun src online speed talking idle inTime source => ⟨?_, rfl⟩,
    fun source items pos progress online side => ⟨?_, ?_⟩, fun hold => ?_, fun resume => ?_, ⟨rfl, rfl⟩, fun r reply => ?_,
    fun n => ⟨?_, rfl⟩, fun c rest ttq => ?_⟩
  · rw [State.source, if_pos (by simpa using pending)]
  · rw [source_of_not_flow noFlow, if_pos brk]
  · rw [source_of_not_flow noFlow, if_neg (by simp [mark]), if_pos (replyReady_iff.mpr reply)]
  · rw [gone wait noFlow mark, requestedSlot_of_first format requested before]
  · rw [gone wait noFlow mark, requestedSlot_of_none noSlot]
    exact if_neg (by simp [some])
  · rw [gone wait noFlow mark, requestedSlot_of_none noSlot]
    exact if_pos (by simp [none])
  · obtain ⟨idle, source, may⟩ := choose_of_txAct act
    exact ⟨idle, source, (mayBegin_iff _).mp may⟩
  · rw [txAct_of_idle ((mayBegin_iff _).mpr ⟨online, .inl speed⟩) idle (by simp [speed]), source]
    rfl
  · have notPassed : s.talkPassed = false := by
      rw [← Bool.not_eq_true, talkPassed_iff]
      rintro ⟨start, running, past⟩
      exact absurd (inTime start running) (Nat.not_le.mpr past)
    rw [txAct_of_idle ((mayBegin_iff _).mpr ⟨online, .inr talking⟩) idle fun _ => ⟨hasWork_of_source source, notPassed⟩, source]
    rfl
  · rw [txAct_of_mayBegin ((mayBegin_iff _).mpr ⟨online, side⟩) (by simp [progress]), if_pos (waits_of_record progress)]
  · simp only [State.doTx, State.resumeRecord, progress]
    rfl
  · rw [begin_flow, if_pos hold]
    rfl
  · rw [begin_flow, if_neg (by simp [resume])]
    rfl
  · rw [begin_reply reply]
    exact ⟨rfl, rfl⟩
  · exact (congrArg Slot.state ((getElem_set_fin s.tx.slots n n _).trans (if_pos rfl)))
  · rw [begin_text ttq]
    exact ⟨rfl, rfl⟩

end Sys2Proof.Machine
end

section
/-!
SUPPORT. The codes of layers, keymap actions and their arguments, both ways (section 12.4); the keymap as a rising list of entries, read and written (R72); CONFIG KEYBOARD, WRITE KEYMAP and READ KEYMAP.
-/

namespace Sys2Proof.Machine

/-! ## Codes (section 12.4) -/

section
variable {b : Byte}

theorem layer?_of_past (past : 4 ≤ b.toNat) : layer? b = none := by
  rw [layer?, if_neg (ne_of_past past (by decide)), if_neg (ne_of_past past (by decide)), if_neg (ne_of_past past (by decide)),
    if_neg (ne_of_past past (by decide))]

theorem modKind?_of_past (past : 4 ≤ b.toNat) : modKind? b = none := by
  rw [modKind?, if_neg (ne_of_past past (by decide)), if_neg (ne_of_past past (by decide)), if_neg (ne_of_past past (by decide)),
    if_neg (ne_of_past past (by decide))]

theorem localAction?_of_past (past : 6 ≤ b.toNat) : localAction? b = none := by
  rw [localAction?, if_neg (ne_of_past past (by decide)), if_neg (ne_of_past past (by decide)),
    if_neg (ne_of_past past (by decide)), if_neg (ne_of_past past (by decide)), if_neg (ne_of_past past (by decide)),
    if_neg (ne_of_past past (by decide))]

theorem keyAction?_of_past (past : 6 ≤ b.toNat) (arg : Byte) : keyAction? b arg = none := by
  rw [keyAction?, if_neg (ne_of_past past (by decide)), if_neg (ne_of_past past (by decide)),
    if_neg (ne_of_past past (by decide)), if_neg (ne_of_past past (by decide)), if_neg (ne_of_past past (by decide)),
    if_neg (ne_of_past past (by decide))]

/-- A code read from a byte is that byte. -/
theorem localAction?_code {a : LocalAction} (is : localAction? b = some a) : a.code = b := by
  unfold localAction? at is
  split at is
  · next code => cases is; exact code.symm
  split at is
  · next code => cases is; exact code.symm
  split at is
  · next code => cases is; exact code.symm
  split at is
  · next code => cases is; exact code.symm
  split at is
  · next code => cases is; exact code.symm
  split at is
  · next code => cases is; exact code.symm
  · cases is

theorem modKind?_code {m : ModKind} (is : modKind? b = some m) : m.code = b := by
  unfold modKind? at is
  split at is
  · next code => cases is; exact code.symm
  split at is
  · next code => cases is; exact code.symm
  split at is
  · next code => cases is; exact code.symm
  split at is
  · next code => cases is; exact code.symm
  · cases is

theorem fin?_code {n : Nat} {x : Fin n} (is : fin? n b = some x) : BitVec.ofNat 8 x.val = b := by
  rw [← fin?_eq_some_iff.mp is, BitVec.ofNat_toNat, BitVec.setWidth_eq]

end

/-- The bytes of an entry read from two bytes are those two. -/
theorem keyAction?_bytes {action arg : Byte} {a : KeyAction} (is : keyAction? action arg = some a) : a.bytes = [action, arg] := by
  unfold keyAction? at is
  split at is
  · next code =>
    split at is
    · next zero => cases is; rw [code, zero]; rfl
    · cases is
  split at is
  · next code => cases is; rw [code]; rfl
  split at is
  · next code =>
    obtain ⟨n, key, rfl⟩ := Option.map_eq_some_iff.mp is
    rw [KeyAction.bytes, fin?_code key, code]
  split at is
  · next code =>
    obtain ⟨x, act, rfl⟩ := Option.map_eq_some_iff.mp is
    rw [KeyAction.bytes, localAction?_code act, code]
  split at is
  · next code =>
    obtain ⟨m, kind, rfl⟩ := Option.map_eq_some_iff.mp is
    rw [KeyAction.bytes, modKind?_code kind, code]
  split at is
  · next code =>
    split at is
    · next zero => cases is; rw [code, zero]; rfl
    · cases is
  · cases is

theorem ne_zero_of_pos {b : Byte} (pos : 1 ≤ b.toNat) : b ≠ 0 := ne_of_past pos (by decide)

theorem keyAction?_of_argument {arg : Byte} (pos : 1 ≤ arg.toNat) : keyAction? 0 arg = none ∧ keyAction? 5 arg = none :=
  by
  have report : keyAction? 5 arg = if arg = 0 then some .report else none := rfl
  exact ⟨(if_pos rfl).trans (if_neg (ne_zero_of_pos pos)), report.trans (if_neg (ne_zero_of_pos pos))⟩

theorem keyAction?_softKey (arg : Byte) : keyAction? 2 arg = (fin? 12 arg).map .softKey := rfl
theorem keyAction?_localAction (arg : Byte) : keyAction? 3 arg = (localAction? arg).map .localAction := rfl
theorem keyAction?_modifier (arg : Byte) : keyAction? 4 arg = (modKind? arg).map .modifier := rfl

/-! ## The keymap (R72) -/

theorem layerCode_lt (l : Layer) : l.code < 4 := by cases l <;> decide

theorem layer?_code (l : Layer) : layer? (BitVec.ofNat 8 l.code) = some l := by cases l <;> rfl

theorem layerCode_inj {l l' : Layer} (same : l.code = l'.code) : l = l' :=
  Option.some.inj ((layer?_code l).symm.trans (same ▸ layer?_code l'))

theorem keymapIndex_ne {key key' : Fin 96} {l l' : Layer} (other : key' ≠ key ∨ l' ≠ l) : keymapIndex key' l' ≠ keymapIndex key l := by
  have low := layerCode_lt l
  have low' := layerCode_lt l'
  simp only [keymapIndex]
  rcases other with key_ne | layer_ne
  · have := Fin.val_ne_of_ne key_ne
    omega
  · have := mt layerCode_inj layer_ne
    omega

theorem keymapRead_filter (m : List (Nat × KeyAction)) (i j : Nat) :
    keymapRead (m.filter fun e => e.1 != i) j = if j = i then .report else keymapRead m j := by
  induction m with
  | nil => simp [keymapRead]
  | cons e m ih =>
    by_cases at_i : e.1 = i
    · rw [List.filter_cons_of_neg (by simp [at_i]), ih]
      split
      · rfl
      · next other => exact (if_neg (by rw [at_i]; exact Ne.symm other)).symm
    · rw [List.filter_cons_of_pos (by simp [at_i]), keymapRead, keymapRead, ih]
      by_cases hit : e.1 = j
      · rw [if_pos hit, if_pos hit, if_neg (hit ▸ at_i)]
      · rw [if_neg hit, if_neg hit]

theorem keymapRead_insert (m : List (Nat × KeyAction)) (i j : Nat) (a : KeyAction) :
    keymapRead (keymapInsert m i a) j = if j = i then a else keymapRead m j := by
  induction m with
  | nil => simp [keymapInsert, keymapRead, eq_comm]
  | cons e m ih =>
    obtain ⟨k, b⟩ := e
    rw [keymapInsert]
    split
    · next below =>
      rw [keymapRead, keymapRead, ih]
      by_cases hit : k = j
      · rw [if_pos hit, if_pos hit, if_neg (by omega)]
      · rw [if_neg hit, if_neg hit]
    · split
      · next same =>
        subst same
        simp only [keymapRead, eq_comm]
        split <;> rfl
      · simp only [keymapRead, eq_comm]

theorem keymapRead_write (m : List (Nat × KeyAction)) (i j : Nat) (a : KeyAction) :
    keymapRead (keymapWrite m i a) j = if j = i then a else keymapRead m j := by
  unfold keymapWrite
  split
  · next report => rw [keymapRead_filter, report]
  · exact keymapRead_insert m i j a

theorem mem_keymapInsert {m : List (Nat × KeyAction)} {i : Nat} {a : KeyAction} {e : Nat × KeyAction} (mem : e ∈ keymapInsert m i a) :
    e = (i, a) ∨ e ∈ m := by
  induction m with
  | nil => exact .inl (List.mem_singleton.mp mem)
  | cons f m ih =>
    obtain ⟨k, b⟩ := f
    rw [keymapInsert] at mem
    split at mem
    · rcases List.mem_cons.mp mem with first | later
      · exact .inr (first ▸ List.mem_cons_self)
      · exact (ih later).imp_right (List.mem_cons_of_mem _)
    · split at mem
      · exact (List.mem_cons.mp mem).imp_right (List.mem_cons_of_mem _)
      · exact List.mem_cons.mp mem

/-- The entries stay in rising order. -/
theorem keymapInsert_rising {m : List (Nat × KeyAction)} (rising : m.Pairwise fun e f => e.1 < f.1) (i : Nat) (a : KeyAction) :
    (keymapInsert m i a).Pairwise fun e f => e.1 < f.1 := by
  induction m with
  | nil => exact List.pairwise_singleton _ _
  | cons e m ih =>
    obtain ⟨k, b⟩ := e
    obtain ⟨first, rest⟩ := List.pairwise_cons.mp rising
    rw [keymapInsert]
    split
    · next below =>
      refine List.pairwise_cons.mpr ⟨fun f mem => ?_, ih rest⟩
      rcases mem_keymapInsert mem with new | old
      · rw [new]; exact below
      · exact first f old
    · split
      · next same => exact List.pairwise_cons.mpr ⟨fun f mem => same ▸ first f mem, rest⟩
      · next notBelow notSame =>
        refine List.pairwise_cons.mpr ⟨fun f mem => ?_, rising⟩
        have above : i < k := by omega
        rcases List.mem_cons.mp mem with head | tail
        · rw [head]; exact above
        · exact Nat.lt_trans above (first f tail)

theorem keymapWrite_rising {m : List (Nat × KeyAction)} (rising : m.Pairwise fun e f => e.1 < f.1) (i : Nat) (a : KeyAction) :
    (keymapWrite m i a).Pairwise fun e f => e.1 < f.1 := by
  unfold keymapWrite
  split
  · exact rising.filter _
  · exact keymapInsert_rising rising i a

/-! ## CONFIG KEYBOARD, WRITE KEYMAP, READ KEYMAP -/

theorem keySettings?_of_route {p : List Byte} {route : Fin 16} (hroute : fin? 16 (byteAt p 6) = some route) : keySettings? p
    = some { press := max 1 (min 15 (byteAt p 0).toNat), release := max 1 (min 15 (byteAt p 1).toNat)
             delayMs := max 100 (min 1500 (wordAt p 2 / 50 * 50)), intervalMs := max 50 (min 500 (wordAt p 4 / 10 * 10))
             route := route } := by
  simp [keySettings?, hroute, quantize, clamp]

theorem keySettings?_of_past {p : List Byte} (past : 16 ≤ (byteAt p 6).toNat) : keySettings? p = none := by
  simp [keySettings?, fin?_of_past past]

/-- A field is refused where its body refuses whatever it reads. -/
theorem field_of_refused {α : Type} {x : Option α} {body : α → State → State × Response} {s : State}
    (refused : ∀ a, body a s = s.refuse .badField) : field x body s = s.refuse .badField := by
  unfold field
  split
  · exact refused _
  · rfl

theorem readKeymapBody_of_fields {p : List Byte} {k : Fin 96} {l : Layer} (key : fin? 96 (byteAt p 0) = some k)
    (layer : layer? (byteAt p 1) = some l) (s : State) : readKeymapBody p s = s.done (s.keys.entry k l).bytes :=
  (field_some key _ _).trans (field_some layer _ _)

theorem writeKeymapBody_of_fields {p : List Byte} {k : Fin 96} {l : Layer} {a : KeyAction} (key : fin? 96 (byteAt p 0) = some k)
    (layer : layer? (byteAt p 1) = some l) (act : keyAction? (byteAt p 2) (byteAt p 3) = some a) (s : State) : writeKeymapBody p s
      = (s.setKeys { s.keys with keymap := keymapWrite s.keys.keymap (keymapIndex k l) a }).done [] :=
  (field_some key _ _).trans ((field_some layer _ _).trans (field_some act _ _))

theorem writeKeymapBody_of_bad {p : List Byte} (bad : 96 ≤ (byteAt p 0).toNat ∨ 4 ≤ (byteAt p 1).toNat
    ∨ keyAction? (byteAt p 2) (byteAt p 3) = none) (s : State) : writeKeymapBody p s = s.refuse .badField := by
  rcases bad with key | layer | act
  · exact field_none (fin?_of_past key) _ _
  · exact field_of_refused fun _ => field_none (layer?_of_past layer) _ _
  · exact field_of_refused fun _ => field_of_refused fun _ => field_none act _ _

/-- Settles O37: the codes by their tables, the keymap by its reads after a write. -/
theorem keyboardTablesAreWritten : Obligations.KeyboardTablesAreWritten := by
  refine ⟨⟨rfl, fun _ => layer?_of_past⟩, fun _ _ _ => fin?_eq_some_iff, ⟨rfl, rfl, fun _ => keyAction?_of_argument, fun _ => rfl,
    by decide, fun arg past => ?_, by decide, fun arg past => ?_, by decide, fun arg past => ?_, fun action arg past => keyAction?_of_past past arg⟩,
    ⟨rfl, rfl, fun _ => rfl, fun _ => rfl, rfl, rfl⟩, fun p s present short => ?config, fun p s present short => ?write,
    fun p s present short => ?read, fun k key key' l l' a => ?keymap, fun _ _ _ => keyAction?_bytes⟩
  · rw [keyAction?_softKey, fin?_of_past past]; rfl
  · rw [keyAction?_localAction, localAction?_of_past past]; rfl
  · rw [keyAction?_modifier, modKind?_of_past past]; rfl
  case config =>
    exact ⟨fun past => completes_of_portBody rfl present short (field_none (keySettings?_of_past past) _ _),
      fun route hroute => completes_of_portBody rfl present short (field_some (keySettings?_of_route hroute) _ _)⟩
  case write =>
    exact ⟨fun bad => completes_of_portBody rfl present short (writeKeymapBody_of_bad bad _),
      fun k l a key layer act => completes_of_portBody rfl present short (writeKeymapBody_of_fields key layer act _)⟩
  case read =>
    intro w
    refine ⟨fun bad => ?_, fun k l key layer => ?_⟩
    · refine completes_of_portBody rfl present short ?_
      rcases bad with key | layer
      · exact field_none (fin?_of_past key) _ _
      · exact field_of_refused fun _ => field_none (layer?_of_past layer) _ _
    · have entry : w.keys.entry k l = s.keys.entry k l := congrArg (Keyboard.entry · k l) (wake_keys s .command)
      exact entry ▸ completes_of_portBody rfl present short (readKeymapBody_of_fields key layer w)
  case keymap =>
    intro k' rising
    refine ⟨(keymapRead_write ..).trans (if_pos rfl), fun other => (keymapRead_write ..).trans (if_neg (keymapIndex_ne other)),
      keymapWrite_rising rising _ a⟩

end Sys2Proof.Machine
end

section
/-!
SUPPORT. A scan of the matrix: the counts, the releases and the presses of each key (R61 to R64, R70, R79); the presses that are carried out at once or find the Key Event List full (R67, R68); the repeat (R69).
-/

namespace Sys2Proof.Machine

/-! ## Counts (R62, R79) -/

theorem isDown_iff (k : Keyboard) (key : Fin 96) : k.isDown key = true ↔ ∃ d ∈ k.down, d.key = key := by
  simp [Keyboard.isDown]

theorem countsOpen_iff (k : Keyboard) (key : Fin 96) :
    k.countsOpen key = true ↔ (∃ d ∈ k.down, d.key = key) ∨ k.awaiting.getLsbD key.val = true := by
  rw [Keyboard.countsOpen, Bool.or_eq_true, isDown_iff]

theorem count_countScan (k : Keyboard) (closed : BitVec 96) (key : Fin 96) : (k.countScan closed).count key = k.countAfter closed key := by
  have inRange : key.val < (allKeys.map (k.countAfter closed)).length := by simp [allKeys]
  show (allKeys.map (k.countAfter closed)).getD key.val 0 = _
  rw [List.getD_eq_getElem?_getD, List.getElem?_eq_getElem inRange, Option.getD_some]
  simp [allKeys]

theorem countAfter_same {k : Keyboard} {closed : BitVec 96} {key : Fin 96} (same : closed.getLsbD key.val = k.countsOpen key) :
    k.countAfter closed key = 0 := if_pos same

theorem countAfter_other {k : Keyboard} {closed : BitVec 96} {key : Fin 96} (other : closed.getLsbD key.val ≠ k.countsOpen key) :
    k.countAfter closed key = min 15 (k.count key + 1) := if_neg other

/-! ## Releases (R70, R79) -/

theorem stopRepeat_eq (k : Keyboard) (key : Fin 96) : k.stopRepeat key
    = { k with repeating := if ∃ r, k.repeating = some r ∧ r.key = key then none else k.repeating } := by
  obtain ⟨counts, down, awaiting, lock, rep, events, keymap, settings, nextScan⟩ := k
  cases rep with
  | none =>
    have hasNot : ¬ ∃ r, (none : Option RepeatKey) = some r ∧ r.key = key := by simp
    simp only [Keyboard.stopRepeat, if_neg hasNot]
  | some r =>
    by_cases same : r.key = key
    · have has : ∃ r', some r = some r' ∧ r'.key = key := ⟨r, rfl, same⟩
      simp only [Keyboard.stopRepeat, if_pos has, if_pos same]
    · have hasNot : ¬ ∃ r', some r = some r' ∧ r'.key = key := by
        rintro ⟨r', is, same'⟩
        cases is
        exact same same'
      simp only [Keyboard.stopRepeat, if_neg hasNot, if_neg same]

theorem release_full (k : Keyboard) (key : Fin 96) : k.release key = { k with
      counts := k.counts.set key.val 0
      down := k.down.filter (fun d => d.key ≠ key)
      repeating := if ∃ r, k.repeating = some r ∧ r.key = key then none else k.repeating } := by
  have filters : (fun d : DownKey => d.key != key) = fun d => decide (d.key ≠ key) := by
    funext d
    by_cases same : d.key = key <;> simp [same]
  rw [Keyboard.release, filters, stopRepeat_eq]
  rfl

section
variable {k : Keyboard} {closed : BitVec 96} {key : Fin 96}

theorem releaseStep_of_closed (isClosed : closed.getLsbD key.val = true) : k.releaseStep closed key = k :=
  if_neg (by rw [isClosed]; simp)

theorem releaseStep_of_low (low : k.count key < k.settings.release) : k.releaseStep closed key = k :=
  if_neg (by simp [Nat.not_le.mpr low])

theorem releaseStep_of_neither (neither : k.countsOpen key = false) : k.releaseStep closed key = k := by
  obtain ⟨up, free⟩ := Bool.or_eq_false_iff.mp neither
  unfold Keyboard.releaseStep
  rw [up, free]
  split <;> rfl

theorem releaseStep_of_down (isOpen : closed.getLsbD key.val = false) (high : k.settings.release ≤ k.count key)
    (down : k.isDown key = true) : k.releaseStep closed key = k.release key := by
  unfold Keyboard.releaseStep
  rw [isOpen, down, decide_eq_true high]
  rfl

theorem releaseStep_of_awaiting (isOpen : closed.getLsbD key.val = false) (high : k.settings.release ≤ k.count key)
    (up : k.isDown key = false) (awaits : k.awaiting.getLsbD key.val = true) : k.releaseStep closed key = k.endAwait key := by
  unfold Keyboard.releaseStep
  rw [isOpen, up, awaits, decide_eq_true high]
  rfl

end

/-! ## Presses (R62 to R64) -/

section
variable {s : State} {closed : BitVec 96} {key : Fin 96}

theorem pressStep_of_open (isOpen : closed.getLsbD key.val = false) : s.pressStep closed key = s := by
  unfold State.pressStep
  rw [isOpen]
  rfl

/-- A key's press qualifies: closed for the Press Count, and neither down nor awaiting release. -/
theorem pressStep_eq : s.pressStep closed key = if (closed.getLsbD key.val = true ∧ s.keys.settings.press ≤ s.keys.count key
      ∧ s.keys.countsOpen key = false) ∧ s.keys.blocked key = false then s.admitPress key else s := by
  unfold State.pressStep
  refine ite_congr ?_ (fun _ => rfl) fun _ => rfl
  simp only [Bool.and_eq_true, Bool.not_eq_true', decide_eq_true_eq, eq_iff_iff]
  exact ⟨fun ⟨⟨⟨closed, isOpen⟩, press⟩, free⟩ => ⟨⟨closed, press, isOpen⟩, free⟩,
    fun ⟨⟨closed, press, isOpen⟩, free⟩ => ⟨⟨⟨closed, isOpen⟩, press⟩, free⟩⟩

end

theorem driveOf_eq (k : Fin 96) : driveOf k = k.val / 12 := rfl
theorem senseOf_eq (k : Fin 96) : senseOf k = k.val % 12 := rfl

theorem blocked_iff (k : Keyboard) (key : Fin 96) : k.blocked key = true ↔ 6 ≤ k.down.length
      ∨ ∃ a ∈ k.down, ∃ b ∈ k.down, ∃ c ∈ k.down,
        a.key.val / 12 = key.val / 12 ∧ a.key.val % 12 ≠ key.val % 12
        ∧ b.key.val % 12 = key.val % 12 ∧ b.key.val / 12 ≠ key.val / 12
        ∧ c.key.val / 12 = b.key.val / 12 ∧ c.key.val % 12 = a.key.val % 12 := by
  simp only [Keyboard.blocked, ghost, Bool.or_eq_true, List.any_eq_true, Bool.and_eq_true, beq_iff_eq, bne_iff_ne,
    driveOf_eq, senseOf_eq, Config.downCap]
  refine or_congr decide_eq_true_iff (exists_congr fun a => ?_)
  constructor
  · rintro ⟨memA, ⟨drive, sense⟩, b, memB, ⟨senseB, driveB⟩, c, memC, driveC, senseC⟩
    exact ⟨memA, b, memB, c, memC, drive, sense, senseB, driveB, driveC, senseC⟩
  · rintro ⟨memA, b, memB, c, memC, drive, sense, senseB, driveB, driveC, senseC⟩
    exact ⟨memA, ⟨drive, sense⟩, b, memB, ⟨senseB, driveB⟩, c, memC, driveC, senseC⟩

/-! ## The whole scan (R61) -/

theorem scanInterval_eq (x : Power) : scanInterval x = if x = .run then 12000 else 96000 := by cases x <;> rfl

theorem foldl_of_fixed {α β : Type} {f : β → α → β} {l : List α} {b : β} (fixed : ∀ a ∈ l, f b a = b) : l.foldl f b = b := by
  induction l with
  | nil => rfl
  | cons a l ih =>
    rw [List.foldl_cons, fixed a List.mem_cons_self]
    exact ih fun a mem => fixed a (List.mem_cons_of_mem _ mem)

/-- Where every other element leaves any state, a fold makes the one element's step. -/
theorem foldl_of_one {α β : Type} {f : β → α → β} {l : List α} {x : α} (others : ∀ a, a ≠ x → ∀ b, f b a = b) (nodup : l.Nodup)
    (mem : x ∈ l) (b : β) : l.foldl f b = f b x := by
  induction l generalizing b with
  | nil => cases mem
  | cons a l ih =>
    obtain ⟨notIn, nodup⟩ := List.nodup_cons.mp nodup
    rw [List.foldl_cons]
    by_cases same : a = x
    · subst same
      exact foldl_of_fixed fun c inRest => others c (fun is => notIn (is ▸ inRest)) _
    · rw [others a same]
      exact ih nodup ((List.mem_cons.mp mem).resolve_left (Ne.symm same)) b

section
variable {s : State}

theorem scanMatrix_eq (s : State) (closed : BitVec 96) : s.scanMatrix closed
    = allKeys.foldl (State.pressStep closed) (s.setKeys { allKeys.foldl (Keyboard.releaseStep closed) (s.keys.countScan closed) with
        nextScan := s.now + (if s.mon.power = .run then 12000 else 96000) }) := by
  rw [← scanInterval_eq]
  rfl

theorem countsOpen_of_none {k : Keyboard} (noDown : k.down = []) (noAwait : k.awaiting = 0) (key : Fin 96) : k.countsOpen key = false := by
  simp [Keyboard.countsOpen, Keyboard.isDown, noDown, noAwait]

/-- With no key down or awaiting release a scan releases none. -/
theorem releases_of_none {k : Keyboard} (noDown : k.down = []) (noAwait : k.awaiting = 0) (closed : BitVec 96) :
    allKeys.foldl (Keyboard.releaseStep closed) (k.countScan closed) = k.countScan closed :=
  foldl_of_fixed fun key _ => releaseStep_of_neither (countsOpen_of_none (k := k.countScan closed) noDown noAwait key)

theorem scanMatrix_of_open (noDown : s.keys.down = []) (noAwait : s.keys.awaiting = 0) : s.scanMatrix 0 = s.setKeys { s.keys with
      counts := List.replicate 96 0, nextScan := s.now + (if s.mon.power = .run then 12000 else 96000) } := by
  have counts : allKeys.map (s.keys.countAfter 0) = List.replicate 96 0 := by
    refine List.eq_replicate_iff.mpr ⟨by simp [allKeys], fun n mem => ?_⟩
    obtain ⟨key, -, rfl⟩ := List.mem_map.mp mem
    exact countAfter_same (by rw [countsOpen_of_none noDown noAwait]; simp)
  rw [scanMatrix_eq, releases_of_none noDown noAwait, foldl_of_fixed fun key _ => pressStep_of_open (by simp), Keyboard.countScan, counts]

theorem oneKey_getLsbD (key k : Fin 96) : (1#96 <<< key.val).getLsbD k.val = decide (key = k) := by
  simpa using getLsbD_or_bit 0 key k

/-- The counts of a scan at which one key is closed, with none down or awaiting release. -/
theorem counts_of_one {k : Keyboard} (noDown : k.down = []) (noAwait : k.awaiting = 0) {key : Fin 96} (low : k.count key < 15) :
    allKeys.map (k.countAfter (1#96 <<< key.val)) = (List.replicate 96 0).set key.val (k.count key + 1) := by
  have free := countsOpen_of_none noDown noAwait
  refine List.ext_getElem (by simp [allKeys]) fun i hi _ => ?_
  have inRange : i < 96 := by simpa [allKeys] using hi
  rw [List.getElem_map, List.getElem_set, List.getElem_replicate]
  have at_i : allKeys[i]'(by simpa [allKeys] using inRange) = ⟨i, inRange⟩ := by simp [allKeys]
  rw [at_i]
  split
  · next same =>
    have same : key = ⟨i, inRange⟩ := Fin.ext same
    subst same
    rw [countAfter_other (by rw [free, oneKey_getLsbD]; simp)]
    omega
  · next other =>
    have other : key ≠ ⟨i, inRange⟩ := fun is => other (congrArg Fin.val is)
    exact countAfter_same (by rw [free, oneKey_getLsbD]; simp [other])

theorem scanMatrix_of_one (run : s.mon.power = .run) (noDown : s.keys.down = []) (noAwait : s.keys.awaiting = 0) {key : Fin 96}
    (low : s.keys.count key < 15) :
    let after := s.setKeys { s.keys with
      counts := (List.replicate 96 0).set key.val (s.keys.count key + 1), nextScan := s.now + 12000 }
    s.scanMatrix (1#96 <<< key.val) = if s.keys.settings.press ≤ s.keys.count key + 1 then after.admitPress key else after := by
  intro after
  have others (k : Fin 96) (other : k ≠ key) (t : State) : t.pressStep (1#96 <<< key.val) k = t :=
    pressStep_of_open (by rw [oneKey_getLsbD]; simp [Ne.symm other])
  have count : after.keys.count key = s.keys.count key + 1 := by
    show ((List.replicate 96 0).set key.val (s.keys.count key + 1)).getD key.val 0 = _
    rw [List.getD_eq_getElem?_getD, List.getElem?_set_self (by simp), Option.getD_some]
  have notBlocked : after.keys.blocked key = false := by
    have noDown : after.keys.down = [] := noDown
    simp [Keyboard.blocked, ghost, noDown, Config.downCap]
  have free : after.keys.countsOpen key = false := countsOpen_of_none noDown noAwait key
  rw [scanMatrix_eq, releases_of_none noDown noAwait, foldl_of_one (l := allKeys) others (List.nodup_finRange 96) (List.mem_finRange key), Keyboard.countScan,
    counts_of_one noDown noAwait low, if_pos run]
  show after.pressStep _ key = _
  rw [pressStep_eq, oneKey_getLsbD, count, free, notBlocked]
  simp
  rfl

end

/-! ## Cancel Print (R67) -/

theorem closing_iff (s : State) (p : JobPort) : s.closing p = true ↔ ∃ l, s.comp.line = some l ∧ l.port = p.toPort ∧ l.jobEnd = true := by
  unfold State.closing
  cases s.comp.line <;> simp

/-- After the Keyboard's own step, Cancel Print cancels the holding port's job, unless that job is closing. -/
theorem cancelKey_setKeys_cases (s0 : State) (k : Keyboard) :
    let s := s0.setKeys k
    (s0.arb.hold = none → s.cancelKey = s)
    ∧ ∀ p, s0.arb.hold = some p →
      ((∃ l, s0.comp.line = some l ∧ l.port = p.toPort ∧ l.jobEnd = true) → s.cancelKey = s)
      ∧ (¬ (∃ l, s0.comp.line = some l ∧ l.port = p.toPort ∧ l.jobEnd = true) → s.cancelKey = s.cancelJob p) := by
  intro s
  have sameHold : s.arb.hold = s0.arb.hold := rfl
  rw [← sameHold]
  refine ⟨fun free => ?_, fun p held => ⟨fun closing => ?_, fun live => ?_⟩⟩
  · rw [State.cancelKey, free]
  · rw [State.cancelKey, held]
    exact if_pos ((closing_iff s p).mpr closing)
  · rw [State.cancelKey, held]
    exact if_neg (mt (closing_iff s p).mp live)

theorem requestBreak_setKeys_cases (s : State) (k : Keyboard) :
    (s.line.state = .online ∨ s.line.state = .fade → (s.setKeys k).requestBreak = (s.setKeys k).setTx { s.tx with breakPending := true })
    ∧ (s.line.state ≠ .online → s.line.state ≠ .fade → (s.setKeys k).requestBreak = s.setKeys k) :=
  ⟨requestBreak_of_connected (s := s.setKeys k), requestBreak_of_not_connected (s := s.setKeys k)⟩

/-! ## Presses carried out at once, and at a full list (R67, R68, R78) -/

theorem admitPress_of_doze (s : State) (key : Fin 96) : s.admitPress key = (s.wake .keyPress).admitPress key := by
  have again : (s.wake .keyPress).wake .keyPress = s.wake .keyPress := wake_of_run (wake_power _ _) _
  unfold State.admitPress
  rw [again]

section
variable {s : State} {key : Fin 96} (run : s.mon.power = .run) (ordinary : ∀ m, s.keys.entry key .plain ≠ .modifier m)
include run ordinary

theorem admitPress_of_sendBreak (entry : s.keys.entry key s.keys.layer = .localAction .sendBreak) : s.admitPress key
    = (s.setKeys { s.keys.enterDown key none with repeating := none }).requestBreak := by
  unfold State.admitPress
  rw [wake_of_run run]
  dsimp only
  split
  case h_1 m isModifier => exact absurd isModifier (ordinary m)
  case h_2 => simp only [entry, layerAction, State.immediate]

theorem admitPress_of_cancelPrint (entry : s.keys.entry key s.keys.layer = .localAction .cancelPrint) : s.admitPress key
    = (s.setKeys { s.keys.enterDown key none with repeating := none }).cancelKey := by
  unfold State.admitPress
  rw [wake_of_run run]
  dsimp only
  split
  case h_1 m isModifier => exact absurd isModifier (ordinary m)
  case h_2 => simp only [entry, layerAction, State.immediate]

theorem admitPress_of_full (notBreak : s.keys.entry key s.keys.layer ≠ .localAction .sendBreak)
    (notCancel : s.keys.entry key s.keys.layer ≠ .localAction .cancelPrint) (full : 24 ≤ s.keys.events.length) :
    s.admitPress key = (s.setKeys { s.keys.enterDown key none with
      repeating := some { key := key, layer := s.keys.layer, due := s.now + 3000 * s.keys.settings.delayMs } }).raise .keyLost := by
  rw [admitPress_of_ordinary ordinary notBreak notCancel, wake_of_run run, Nat.mul_comm 3000]
  exact if_neg (Nat.not_lt.mpr full)

end

/-! ## The repeat timer (R69) -/

theorem repeatNow_of_repeating {s : State} {r : RepeatKey} (repeating : s.keys.repeating = some r) : s.repeatNow = s.repeatExpiry r := by
  rw [State.repeatNow, repeating]

theorem repeatExpiry_of_waiting {s : State} (waiting : 4 ≤ s.keys.events.length) (r : RepeatKey) : s.repeatExpiry r
    = s.setKeys { s.keys with repeating := some { r with due := s.now + s.keys.settings.intervalMs * Config.unitsPerMs } } :=
  if_neg (Nat.not_lt.mpr waiting)

theorem completes_repeatTimerExpiry {s : State} {r : RepeatKey} (repeating : s.keys.repeating = some r) :
    Completes .repeatTimerExpiry s ((s.reach r.due).repeatExpiry r) := by
  have now : (s.reach r.due).repeatNow = (s.reach r.due).repeatExpiry r := repeatNow_of_repeating repeating
  exact now ▸ completes_of_expiry (c := .repeatTimerExpiry) (f := State.repeatNow) rfl (by rw [State.repeatDue, repeating]; rfl)

/-! ## The obligation -/

theorem countScan_count_cases (closed : BitVec 96) (k : Keyboard) (key : Fin 96) :
    let down := ∃ d ∈ k.down, d.key = key
    let awaits := k.awaiting.getLsbD key.val = true
    let isClosed := closed.getLsbD key.val = true
    (down ∨ awaits → (isClosed → (k.countScan closed).count key = 0)
        ∧ (¬ isClosed → (k.countScan closed).count key = min 15 (k.count key + 1)))
    ∧ (¬ down → ¬ awaits → (isClosed → (k.countScan closed).count key = min 15 (k.count key + 1))
        ∧ (¬ isClosed → (k.countScan closed).count key = 0)) := by
  rw [count_countScan]
  refine ⟨fun counts => ?_, fun up free => ?_⟩
  · have countsOpen := (countsOpen_iff k key).mpr counts
    exact ⟨fun isClosed => countAfter_same (isClosed.trans countsOpen.symm), fun isOpen => countAfter_other fun same => isOpen (same.trans countsOpen)⟩
  · have countsClosed : k.countsOpen key = false := Bool.not_eq_true _ ▸ mt (countsOpen_iff k key).mp (not_or.mpr ⟨up, free⟩)
    exact ⟨fun isClosed => countAfter_other fun same => Bool.false_ne_true ((countsClosed.symm.trans same.symm).trans isClosed),
      fun isOpen => countAfter_same (((Bool.not_eq_true _).mp isOpen).trans countsClosed.symm)⟩

theorem releaseStep_cases (closed : BitVec 96) (k : Keyboard) (key : Fin 96) :
    let down := ∃ d ∈ k.down, d.key = key
    let awaits := k.awaiting.getLsbD key.val = true
    let isClosed := closed.getLsbD key.val = true
    (isClosed ∨ k.count key < k.settings.release ∨ ¬ (down ∨ awaits) → k.releaseStep closed key = k)
    ∧ (¬ isClosed → k.settings.release ≤ k.count key → down → k.releaseStep closed key = { k with
        counts := k.counts.set key.val 0
        down := k.down.filter (fun d => d.key ≠ key)
        repeating := if ∃ r, k.repeating = some r ∧ r.key = key then none else k.repeating })
    ∧ (¬ isClosed → k.settings.release ≤ k.count key → ¬ down → awaits → k.releaseStep closed key = { k with
        counts := k.counts.set key.val 0, awaiting := k.awaiting &&& ~~~(1#96 <<< key.val) }) := by
  refine ⟨fun stays => ?_, fun isOpen high down => ?_, fun isOpen high up awaits => ?_⟩
  · rcases stays with isClosed | low | neither
    · exact releaseStep_of_closed isClosed
    · exact releaseStep_of_low low
    · exact releaseStep_of_neither ((Bool.not_eq_true _).mp (mt (countsOpen_iff k key).mp neither))
  · rw [releaseStep_of_down ((Bool.not_eq_true _).mp isOpen) high ((isDown_iff k key).mpr down), release_full]
  · rw [releaseStep_of_awaiting ((Bool.not_eq_true _).mp isOpen) high ((Bool.not_eq_true _).mp (mt (isDown_iff k key).mp up)) awaits]
    rfl

theorem qualified_iff (closed : BitVec 96) (s : State) (key : Fin 96) :
    (closed.getLsbD key.val = true ∧ s.keys.settings.press ≤ s.keys.count key ∧ (∀ d ∈ s.keys.down, d.key ≠ key)
      ∧ s.keys.awaiting.getLsbD key.val = false)
    ↔ closed.getLsbD key.val = true ∧ s.keys.settings.press ≤ s.keys.count key ∧ s.keys.countsOpen key = false := by
  rw [Keyboard.countsOpen, Bool.or_eq_false_iff, ← Bool.not_eq_true (s.keys.isDown key), isDown_iff]
  simp only [not_exists, not_and]

/-- Settles O39: the counts, the releases and the presses key by key; a scan of one closed key leaves every other key's step without effect. -/
theorem scansAndRepeatsMakeEvents : Obligations.ScansAndRepeatsMakeEvents := by
  refine ⟨fun closed s => completes_of_expiry (c := .scan closed) (f := fun s => s.scanMatrix closed) rfl rfl,
    fun closed s => scanMatrix_eq s closed, fun closed k key => ?counts, fun closed s key => ?press, fun s key doze => ?doze,
    fun s key layer run ordinary atMoment => ?atOnce, fun s => scanMatrix_of_open, fun s key run noDown noAwait low => ?one,
    blocked_iff, fun s r repeating => ?repeats⟩
  case counts =>
    obtain ⟨counting, notCounting⟩ := countScan_count_cases closed k key
    exact ⟨rfl, counting, notCounting, releaseStep_cases closed k key⟩
  case press =>
    rw [qualified_iff, pressStep_eq]
    refine ⟨fun qualified free => if_pos ⟨qualified, free⟩, fun either => if_neg fun both => ?_⟩
    rcases either with not | blocked
    · exact not both.1
    · exact Bool.false_ne_true (both.2.symm.trans blocked)
  case doze => exact ⟨wake_power _ _, admitPress_of_doze s key⟩
  case atOnce =>
    subst atMoment
    refine ⟨fun entry => ?_, fun entry => ?_, fun notBreak notCancel full => admitPress_of_full run ordinary notBreak notCancel full⟩
    · rw [admitPress_of_sendBreak run ordinary entry]
      exact requestBreak_setKeys_cases s _
    · rw [admitPress_of_cancelPrint run ordinary entry]
      exact cancelKey_setKeys_cases s _
  case one =>
    have after := scanMatrix_of_one run noDown noAwait low
    exact ⟨fun few => after.trans (if_neg (Nat.not_le.mpr few)), fun enough => after.trans (if_pos enough)⟩
  case repeats =>
    have expires := completes_repeatTimerExpiry repeating
    refine ⟨fun room => ?_, fun waiting => ?_⟩
    · rw [repeatExpiry_of_room (s := s.reach r.due) room, Nat.mul_comm] at expires
      exact expires
    · rw [repeatExpiry_of_waiting (s := s.reach r.due) waiting, Nat.mul_comm] at expires
      exact expires

end Sys2Proof.Machine
end

section
/-!
SUPPORT. The Key Dispatcher's delivery of a Character or a soft key in one piece: when it is taken, and what each sink and the route's mark then are (R74, R75).
-/

namespace Sys2Proof.Machine

open Sys2Proof.Laws

/-! ## Translate (R98) -/

theorem apply_upper (c : Byte) : Translate.upper.apply c = if 0x61 ≤ c.toNat ∧ c.toNat ≤ 0x7A then c - 0x20 else c :=
  ite_congr (by simp [BitVec.le_def]) (fun _ => rfl) fun _ => rfl

/-! ## Room at the sinks -/

section
variable {s : State} {codes : List Byte} (some : codes ≠ [])
include some

theorem length_le_p1Room : codes.length ≤ s.arb.room .p1 ↔ s.arb.p1.cells.length + codes.length ≤ 32 := by
  have pos := List.length_pos_iff.mpr some
  simp only [Arbiter.room, portCapacity, Arbiter.port]
  omega

theorem length_le_ttqRoom : codes.length ≤ s.ttqRoom ↔ s.tx.ttq.length + codes.length ≤ 128 :=
  (ttqRoom_iff s codes).trans (or_iff_left some)

theorem length_le_crqRoom : codes.length ≤ s.crqRoom ↔ s.crq.length + codes.length ≤ 64 := by
  have pos := List.length_pos_iff.mpr some
  simp only [State.crqRoom, Config.crqCap]
  omega

/-- A delivery from the keyboard is taken with Drop When Blocked, or where every sink has room, a sequence longer than P1 passing over P1. -/
theorem keyTakes_iff (r : Fin 16) : s.keyTakes r codes.length = true ↔ (s.store.route r).dropBlocked = true
    ∨ ((s.store.route r).print = true → s.arb.p1.cells.length + codes.length ≤ 32 ∨ 32 < codes.length)
      ∧ ((s.store.route r).transmit = true → s.tx.ttq.length + codes.length ≤ 128)
      ∧ ((s.store.route r).controller = true → s.crq.length + codes.length ≤ 64) := by
  have capacity : decide (portCapacity .p1 < codes.length) = decide (32 < codes.length) := rfl
  simp only [State.keyTakes, sinkRoom, capacity, Bool.or_eq_true, Bool.and_eq_true, Bool.not_eq_true', decide_eq_true_iff,
    length_le_p1Room some, length_le_ttqRoom some, length_le_crqRoom some]
  generalize s.store.route r = x
  cases x.print <;> cases x.transmit <;> cases x.controller <;> simp [and_assoc]

end

/-! ## What a delivery leaves -/

/-- The units of a delivery over any values of them, and what it leaves. -/
theorem setArb_setTx_setCrq_setStore_setPort (s : State) (a : Arbiter) (x : Transmitter) (c : List CrqEntry) (st : Store) (p : CtlPort) :
    let t := ((((s.setArb a).setTx x).setCrq c).setStore st).setPort p
    t.arb = a ∧ t.tx = x ∧ t.crq = c ∧ t.store = st ∧ t.port = p ∧ t.keys = s.keys
    ∧ t.line = s.line ∧ t.engine = s.engine ∧ t.rtq = s.rtq ∧ t.comp = s.comp ∧ t.head = s.head ∧ t.mon = s.mon :=
  ⟨rfl, rfl, rfl, rfl, rfl, rfl, rfl, rfl, rfl, rfl, rfl, rfl⟩

section
variable {s : State} {r : Fin 16} {codes : List Byte}

/-- A delivery from the keyboard, sink by sink. -/
theorem keyDeliver_cases (s : State) (r : Fin 16) (some : codes ≠ []) {translate : Byte → Byte}
    (translates : ∀ c, translate c = (s.store.route r).translate.apply c) :
    let x := s.store.route r
    let sent := codes.map translate
    let fits1 := s.arb.p1.cells.length + codes.length ≤ 32
    let fitsT := s.tx.ttq.length + codes.length ≤ 128
    let fitsC := s.crq.length + codes.length ≤ 64
    let lost := (x.print = true ∧ ¬ fits1) ∨ (x.transmit = true ∧ ¬ fitsT) ∨ (x.controller = true ∧ ¬ fitsC)
    let t := s.keyDeliver r codes
    t.keys = s.keys
    ∧ (x.print = true → fits1 → t.arb = { s.arb with p1 := { s.arb.p1 with
        cells := s.arb.p1.cells ++ sent.map (fun c => { body := .char c x.style, entered := s.now })
        admitted := s.arb.p1.admitted + codes.length } })
    ∧ (x.print = false ∨ ¬ fits1 → t.arb = s.arb)
    ∧ (x.transmit = true → fitsT → t.tx = { s.tx with ttq := s.tx.ttq ++ sent })
    ∧ (x.transmit = false ∨ ¬ fitsT → t.tx = s.tx)
    ∧ (x.controller = true → fitsC → t.crq = s.crq ++ sent.map (fun c => .character r c false))
    ∧ (x.controller = false ∨ ¬ fitsC → t.crq = s.crq)
    ∧ (lost → t.store = s.store.setRoute r { x with overflow := true } ∧ namesCause t.port.causes .routeOverflow = true)
    ∧ (¬ lost → t.store = s.store ∧ t.port = s.port)
    ∧ t.line = s.line ∧ t.engine = s.engine ∧ t.rtq = s.rtq ∧ t.comp = s.comp ∧ t.head = s.head ∧ t.mon = s.mon := by
  intro x sent fits1 fitsT fitsC lost t
  have room : sinkRoom s .p1 x sent.length = (!x.print || decide fits1, !x.transmit || decide fitsT, !x.controller || decide fitsC) := by
    simp only [sinkRoom, sent, List.length_map, length_le_p1Room some, length_le_ttqRoom some, length_le_crqRoom some, fits1, fitsT, fitsC]
  let dropped := !((!x.print || decide fits1) && (!x.transmit || decide fitsT) && (!x.controller || decide fitsC))
  have isDropped : dropped = true ↔ lost := by
    simp only [dropped, lost, Bool.not_eq_true', Bool.and_eq_false_iff, Bool.or_eq_false_iff, Bool.not_eq_false',
      decide_eq_false_iff_not, or_assoc]
  have delivered := deliver_eq s .p1 r sent false
  dsimp only at delivered
  rw [room] at delivered
  have translated : codes.map x.translate.apply = sent := (List.map_congr_left fun c _ => translates c).symm
  have delivers : s.keyDeliver r codes = _ := (congrArg (fun codes => s.deliver .p1 r codes false) translated).trans delivered
  obtain ⟨arb, tx, crq, store, port, others⟩ := setArb_setTx_setCrq_setStore_setPort s
    (if x.print && (!x.print || decide fits1) then
      s.arb.setPort .p1 ((s.arb.port .p1).putCells s.now (sent.map fun c => .char c x.style)) else s.arb)
    { s.tx with ttq := if x.transmit && (!x.transmit || decide fitsT) then s.tx.ttq ++ sent else s.tx.ttq }
    (if x.controller && (!x.controller || decide fitsC) then s.crq ++ sent.map fun c => .character r c false else s.crq)
    (if dropped then s.store.setRoute r { x with overflow := true } else s.store) (s.port.raisedIf dropped .routeOverflow)
  rw [← delivers] at arb tx crq store port others
  obtain ⟨keys, others⟩ := others
  refine ⟨keys, fun named fits => arb.trans ?_, fun stays => arb.trans (if_neg ?_), fun named fits => tx.trans ?_,
    fun stays => tx.trans ?_, fun named fits => crq.trans ?_, fun stays => crq.trans (if_neg ?_), fun drop => ?_, fun kept => ?_, others⟩
  · rw [if_pos (by simp [named, fits])]
    simp only [Arbiter.setPort, Arbiter.port, Port.putCells, List.map_map, List.length_map, sent]
    rfl
  · rcases stays with off | full
    · simp [off]
    · simp [full]
  · simp [named, fits]
  · rcases stays with off | full
    · simp [off]
    · simp [full]
  · simp [named, fits]
  · rcases stays with off | full
    · simp [off]
    · simp [full]
  · rw [isDropped.mpr drop] at store port
    exact ⟨store, port ▸ (namesCause_raisedIf _ _ _ _).trans (by simp)⟩
  · have isKept : dropped = false := (Bool.not_eq_true _).mp (mt isDropped.mp kept)
    rw [isKept] at store port
    exact ⟨store, port⟩

end

/-! ## The attempt on the head event (R73) -/

section
variable {s : State} {e : KeyEvent} {rest : List KeyEvent} (head : s.keys.events = e :: rest)
include head

theorem dispatchTakes_of_cons : s.dispatchTakes = s.attemptTakes e := by rw [State.dispatchTakes, head]

theorem dispatch_of_cons : s.dispatch = (s.setKeys { s.keys with events := rest }).actOn e := by rw [State.dispatch, head]

end

section
variable {s : State} {e : KeyEvent}

/-- What is asked of the head event, by its keymap entry. -/
theorem attemptTakes_of_entry : ∀ {a : KeyAction}, s.keys.entry e.key e.layer = a → s.attemptTakes e = match a with
    | .character _ => s.keyTakes s.keys.settings.route 1
    | .softKey n => s.store.softKeys[n].string.isEmpty || s.keyTakes s.store.softKeys[n].route s.store.softKeys[n].string.length
    | .localAction .feedLine | .localAction .tearFeed => decide (0 < s.arb.room .p1)
    | .localAction .toggleEcho | .localAction .attention | .localAction .sendBreak | .localAction .cancelPrint => true
    | .report => decide (0 < s.crqRoom)
    | .none | .modifier _ => true := by
  rintro _ rfl
  rfl

/-- What the take of an event means, by its keymap entry. -/
theorem actOn_of_entry : ∀ {a : KeyAction}, s.keys.entry e.key e.layer = a → s.actOn e = match a with
    | .character c => s.keyDeliver s.keys.settings.route [c]
    | .softKey n =>
      if s.store.softKeys[n].string.isEmpty then s else s.keyDeliver s.store.softKeys[n].route s.store.softKeys[n].string
    | .localAction .feedLine => s.putCells .p1 [.char codeLF (s.store.route s.keys.settings.route).style]
    | .localAction .tearFeed => s.putCells .p1 [.char codeFF (s.store.route s.keys.settings.route).style]
    | .localAction .toggleEcho => s.toggleEcho s.keys.settings.route
    | .localAction .attention => s.post (.keyAttention e.key e.layer)
    | .localAction .sendBreak => s.requestBreak
    | .localAction .cancelPrint => s.cancelKey
    | .report => s.pushCrq (.key e.key e.layer)
    | .none | .modifier _ => s := by
  rintro _ rfl
  rfl

end

theorem p1Room_pos_iff (s : State) : 0 < s.arb.room .p1 ↔ s.arb.p1.cells.length < 32 := Nat.sub_pos_iff_lt

theorem crqRoom_pos_iff (s : State) : 0 < s.crqRoom ↔ s.crq.length < 64 := Nat.sub_pos_iff_lt

/-- Settles O22: by the kind of the head event's keymap entry; a Character and a soft key share one delivery, sink by sink. -/
theorem keyEventsAreDispatched : Obligations.KeyEventsAreDispatched := by
  refine ⟨fun s none => ⟨by rw [State.dispatchTakes, none], by rw [State.dispatch, none]⟩, fun s e rest head => ?_⟩
  intro entry u keyRoute feed delivers
  have takes {a : KeyAction} (is : entry = a) := (dispatchTakes_of_cons head).trans (attemptTakes_of_entry is)
  have acts {a : KeyAction} (is : entry = a) := (dispatch_of_cons head).trans
    (actOn_of_entry (s := s.setKeys { s.keys with events := rest }) is)
  have delivery (r : Fin 16) {codes : List Byte} (some : codes ≠ []) (taken : s.dispatchTakes = s.keyTakes r codes.length)
      (acted : s.dispatch = u.keyDeliver r codes) : delivers r codes := by
    refine ⟨?_, ?_⟩
    · rw [taken]
      exact keyTakes_iff some r
    · rw [acted]
      refine keyDeliver_cases u r some fun c => ?_
      show _ = (s.store.route r).translate.apply c
      cases (s.store.route r).translate
      · rfl
      · exact (apply_upper c).symm
      · rfl
  have feeding {code : Byte} (taken : s.dispatchTakes = decide (0 < s.arb.room .p1))
      (acted : s.dispatch = u.putCells .p1 [.char code (s.store.route keyRoute).style]) : feed code := by
    refine ⟨?_, acted⟩
    rw [taken, decide_eq_true_iff]
    exact p1Room_pos_iff s
  refine ⟨?none, fun c is => delivery _ (List.cons_ne_nil _ _) (takes is) (acts is), fun n is empty => ?empty, fun n is some => ?soft,
    fun is => feeding (takes is) (acts is), fun is => feeding (takes is) (acts is), fun is => ⟨takes is, acts is⟩,
    fun is => ⟨takes is, fun room => (acts is).trans (post_of_room (s := u) room _), fun full => (acts is).trans (post_of_full (s := u) full _)⟩,
    fun is => ⟨takes is, ?_⟩, fun is => ⟨takes is, ?_⟩, fun is => ⟨?report, acts is⟩⟩
  case none =>
    rintro (is | ⟨m, is⟩)
    · exact ⟨takes is, acts is⟩
    · exact ⟨takes is, acts is⟩
  case empty =>
    have isEmpty : s.store.softKeys[n].string.isEmpty = true := List.isEmpty_iff.mpr empty
    exact ⟨(takes is).trans (by dsimp only; rw [isEmpty]; rfl), (acts is).trans (if_pos isEmpty)⟩
  case soft =>
    have notEmpty : s.store.softKeys[n].string.isEmpty = false := List.isEmpty_eq_false_iff.mpr some
    exact delivery _ some ((takes is).trans (by dsimp only; rw [notEmpty]; rfl))
      ((acts is).trans (if_neg (Bool.eq_false_iff.mp notEmpty)))
  case report =>
    rw [takes is]
    exact decide_eq_true_iff.trans (crqRoom_pos_iff s)
  · rw [acts is]
    exact requestBreak_setKeys_cases s _
  · rw [acts is]
    exact cancelKey_setKeys_cases s _

end Sys2Proof.Machine
end

section
/-!
SUPPORT. The bytes of the Shared Store: the checks of a write under each selector, what a write changes, and the bytes READ STORE gives (R81 to R89, section 12.3); SET REMOTE MASK (R87).
-/

namespace Sys2Proof.Machine

/-! ## Bytes of a payload -/

theorem byteAt_drop (p : List Byte) (k i : Nat) : byteAt (p.drop k) i = byteAt p (k + i) := by
  simp [byteAt, List.getD_eq_getElem?_getD, List.getElem?_drop]

theorem byteAt_take {p : List Byte} {n i : Nat} (low : i < n) : byteAt (p.take n) i = byteAt p i := by
  simp [byteAt, List.getD_eq_getElem?_getD, List.getElem?_take_of_lt low]

theorem fin?_ofNat {n : Nat} (small : n ≤ 256) (x : Fin n) : fin? n (BitVec.ofNat 8 x.val) = some x :=
  fin?_eq_some_iff.mpr (Nat.mod_eq_of_lt (by omega))

/-- The low four bits of a byte. -/
theorem toNat_and_low (b : Byte) : (b &&& 0x0F).toNat = b.toNat % 16 := by
  rw [BitVec.toNat_and]
  exact Nat.and_two_pow_sub_one_eq_mod b.toNat 4

/-! ## A write's checks, by selector (R81) -/

section
variable {p : List Byte} (two : 2 ≤ p.length)
include two

theorem checkStore_of_long : checkStore p = if byteAt p 0 = 1 then checkRoute (byteAt p 1) (p.drop 2)
    else if byteAt p 0 = 2 then checkSoftKey (byteAt p 1) (p.drop 2)
    else if byteAt p 0 = 3 then checkGlyph (byteAt p 1) (p.drop 2)
    else if byteAt p 0 = 4 then checkEnergy (byteAt p 1) (p.drop 2) else .badField := if_neg (Nat.not_lt.mpr two)

theorem checkStore_route (sel : byteAt p 0 = 1) : checkStore p = checkRoute (byteAt p 1) (p.drop 2) := by
  rw [checkStore_of_long two, sel]
  rfl

theorem checkStore_softKey (sel : byteAt p 0 = 2) : checkStore p = checkSoftKey (byteAt p 1) (p.drop 2) := by
  rw [checkStore_of_long two, sel]
  rfl

theorem checkStore_glyph (sel : byteAt p 0 = 3) : checkStore p = checkGlyph (byteAt p 1) (p.drop 2) := by
  rw [checkStore_of_long two, sel]
  rfl

theorem checkStore_energy (sel : byteAt p 0 = 4) : checkStore p = checkEnergy (byteAt p 1) (p.drop 2) := by
  rw [checkStore_of_long two, sel]
  rfl

theorem checkStore_of_bad_selector (bad : byteAt p 0 = 0 ∨ 5 ≤ (byteAt p 0).toNat) : checkStore p = .badField := by
  rw [checkStore_of_long two]
  rcases bad with zero | past
  · rw [zero]
    rfl
  · rw [if_neg (ne_of_past past (by decide)), if_neg (ne_of_past past (by decide)), if_neg (ne_of_past past (by decide)),
      if_neg (ne_of_past past (by decide))]

end

/-! ### Routes (R82) -/

theorem ofBits_eq (x : BitVec 2) : Style.ofBits x = if x.getLsbD 1 then (if x.getLsbD 0 then .inverse else .tall)
    else if x.getLsbD 0 then .wide else .normal := by
  revert x
  decide

theorem translate?_eq (x : BitVec 2) : translate? x = if x.getLsbD 0 = true ∧ x.getLsbD 1 = true then none
    else some (if x.getLsbD 1 then .sevenBit else if x.getLsbD 0 then .upper else .none) := by
  revert x
  decide

theorem shiftRight_one_eq_zero_iff (b : Byte) : b >>> 1 = 0 ↔ b.toNat < 2 := by
  rw [← BitVec.toNat_inj, BitVec.toNat_ushiftRight, Nat.shiftRight_eq_div_pow]
  show b.toNat / 2 = 0 ↔ _
  omega

theorem routeOfBytes_eq (a b : Byte) : routeOfBytes a b = if 2 ≤ b.toNat ∨ (a.getLsbD 3 = true ∧ a.getLsbD 4 = true) then none
    else some { print := a.getLsbD 0, transmit := a.getLsbD 1, controller := a.getLsbD 2
                translate := if a.getLsbD 4 then .sevenBit else if a.getLsbD 3 then .upper else .none
                style := if a.getLsbD 6 then (if a.getLsbD 5 then .inverse else .tall) else if a.getLsbD 5 then .wide else .normal
                dropBlocked := a.getLsbD 7, locked := b.getLsbD 0, overflow := false } := by
  have b0 (n : Nat) : (a.extractLsb' n 2).getLsbD 0 = a.getLsbD n := by rw [BitVec.getLsbD_extractLsb']; rfl
  have b1 (n : Nat) : (a.extractLsb' n 2).getLsbD 1 = a.getLsbD (n + 1) := by rw [BitVec.getLsbD_extractLsb']; rfl
  rw [routeOfBytes, translate?_eq, ofBits_eq, b0, b1, b0, b1]
  by_cases past : 2 ≤ b.toNat
  · rw [if_neg (mt (shiftRight_one_eq_zero_iff b).mp (Nat.not_lt.mpr past)), if_pos (.inl past)]
  · rw [if_pos ((shiftRight_one_eq_zero_iff b).mpr (Nat.not_le.mp past))]
    by_cases both : a.getLsbD 3 = true ∧ a.getLsbD 4 = true
    · rw [if_pos both]
      exact (if_pos (.inr both)).symm
    · rw [if_neg both]
      exact (if_neg (not_or.mpr ⟨past, both⟩)).symm

section
variable {idx : Byte} {data : List Byte}

theorem checkRoute_of_past (past : 16 ≤ idx.toNat) : checkRoute idx data = .badField := by
  rw [checkRoute, fin?_of_past past]

theorem checkRoute_of_short {n : Fin 16} (number : fin? 16 idx = some n) (short : data.length < 2) : checkRoute idx data = .short := by
  rw [checkRoute, number]
  exact if_pos short

theorem checkRoute_of_bytes {n : Fin 16} (number : fin? 16 idx = some n) (long : 2 ≤ data.length) :
    (routeOfBytes (byteAt data 0) (byteAt data 1) = none → checkRoute idx data = .badField)
    ∧ ∀ e, routeOfBytes (byteAt data 0) (byteAt data 1) = some e → checkRoute idx data = .ok (.route n e) := by
  rw [checkRoute, number]
  refine ⟨fun bad => (if_neg (Nat.not_lt.mpr long)).trans ?_, fun e read => (if_neg (Nat.not_lt.mpr long)).trans ?_⟩
  · rw [bad]
  · rw [read]

/-! ### Soft keys, glyphs and Energy values (R84 to R86) -/

theorem checkSoftKey_of_past (past : 12 ≤ idx.toNat % 16) : checkSoftKey idx data = .badField := by
  rw [checkSoftKey, fin?_of_past (toNat_and_low idx ▸ past)]

theorem checkSoftKey_of_number {n : Fin 12} (number : fin? 12 (idx &&& 0x0F) = some n) : checkSoftKey idx data
    = if data.length < 1 + (byteAt data 0).toNat then .short else if 64 < (byteAt data 0).toNat then .badField
      else .ok (.softKey n { string := (data.drop 1).take (byteAt data 0).toNat, route := (idx.extractLsb' 4 4).toFin }) := by
  rw [checkSoftKey, number]
  rfl

theorem checkGlyph_of_past (past : 32 ≤ idx.toNat) : checkGlyph idx data = .badField := by
  rw [checkGlyph, fin?_of_past past]

theorem checkGlyph_of_short {n : Fin 32} (number : fin? 32 idx = some n) (short : data.length < 25) : checkGlyph idx data = .short := by
  rw [checkGlyph, number]
  exact if_pos short

theorem checkGlyph_of_flag {n : Fin 32} (number : fin? 32 idx = some n) (long : 25 ≤ data.length) {v : Bool}
    (flag : flag? (byteAt data 0) = some v) :
    checkGlyph idx data = .ok (.glyph n { valid := v, pattern := patternOfBytes ((data.drop 1).take 24) }) := by
  rw [checkGlyph, number]
  refine (if_neg (Nat.not_lt.mpr long)).trans ?_
  rw [flag]

theorem checkGlyph_of_bad_flag {n : Fin 32} (number : fin? 32 idx = some n) (long : 25 ≤ data.length)
    (bad : 2 ≤ (byteAt data 0).toNat) : checkGlyph idx data = .badField := by
  rw [checkGlyph, number]
  refine (if_neg (Nat.not_lt.mpr long)).trans ?_
  rw [flag?_of_past bad]

theorem checkEnergy_of_past (past : 16 ≤ idx.toNat) : checkEnergy idx data = .badField := by
  rw [checkEnergy, fin?_of_past past]

theorem checkEnergy_of_number {n : Fin 16} (number : fin? 16 idx = some n) : checkEnergy idx data
    = if data.length < 2 then .short else .ok (.energy n (energyClamp n (wordAt data 0))) := by
  rw [checkEnergy, number]

end

theorem energyClamp_eq (n : Fin 16) (v : Nat) : energyClamp n v = if n.val ≤ 7 then max 100 (min 3000 v)
    else if n.val = 8 then min 7 v else if n.val = 9 then min 31 v else min 15 v := by
  simp only [energyClamp, clamp, Nat.zero_max]

/-- Bits of a pattern are the bits of its bytes, in order. -/
theorem getLsbD_patternOfBytes (l : List Byte) {i : Nat} (low : i < 192) :
    (patternOfBytes l).getLsbD i = (byteAt l (i / 8)).getLsbD (i % 8) := by
  induction l generalizing i with
  | nil => simp [patternOfBytes, byteAt]
  | cons b rest ih =>
    rw [patternOfBytes, BitVec.getLsbD_or, BitVec.getLsbD_setWidth, BitVec.getLsbD_shiftLeft]
    by_cases first : i < 8
    · have byte : i / 8 = 0 := Nat.div_eq_of_lt first
      rw [byte, Nat.mod_eq_of_lt first]
      simp [low, first, byteAt]
    · have byte : i / 8 = (i - 8) / 8 + 1 := by omega
      have bit : i % 8 = (i - 8) % 8 := by omega
      have past : b.getLsbD i = false := BitVec.getLsbD_of_ge b i (Nat.not_lt.mp first)
      have here := ih (i := i - 8) (by omega)
      rw [byte, bit]
      simpa [low, first, past, byteAt] using here

/-! ## Writes (R82, R84 to R86) -/

theorem fits_softKey_iff (st : Store) (n : Fin 12) (k : SoftKey) :
    st.fits (.softKey n k) = true ↔ st.poolTotal - st.softKeys[n].string.length + k.string.length ≤ 320 := decide_eq_true_iff

theorem route_setRoute (st : Store) (n m : Fin 16) (e : Route) : (st.setRoute n e).route m = if n = m then e else st.route m :=
  getElem_set_fin _ n m e

/-! ## READ STORE's bytes (section 12.3) -/

theorem read_route (st : Store) (idx : Byte) : st.read 1 idx
    = (fin? 16 idx).map fun n => [1, idx] ++ (st.route n).bytes ++ [if (st.route n).overflow then 1 else 0] := rfl

theorem read_softKey (st : Store) (idx : Byte) : st.read 2 idx = (fin? 12 (idx &&& 0x0F)).map fun n =>
    [2, BitVec.ofNat 8 (n.val + 16 * st.softKeys[n].route.val), BitVec.ofNat 8 st.softKeys[n].string.length] ++ st.softKeys[n].string := rfl

theorem read_glyph (st : Store) (idx : Byte) : st.read 3 idx
    = (fin? 32 idx).map fun n => [3, idx, if st.glyphs[n].valid then 1 else 0] ++ patternBytes st.glyphs[n].pattern := rfl

theorem read_energy (st : Store) (idx : Byte) : st.read 4 idx = (fin? 16 idx).map fun n => [4, idx] ++ wordBytes st.energy[n] := rfl

theorem read_of_bad {st : Store} {sel idx : Byte} (bad : sel = 0 ∨ 5 ≤ sel.toNat ∨ (sel = 1 ∧ 16 ≤ idx.toNat)
    ∨ (sel = 2 ∧ 12 ≤ idx.toNat % 16) ∨ (sel = 3 ∧ 32 ≤ idx.toNat) ∨ (sel = 4 ∧ 16 ≤ idx.toNat)) : st.read sel idx = none := by
  rcases bad with rfl | past | ⟨rfl, past⟩ | ⟨rfl, past⟩ | ⟨rfl, past⟩ | ⟨rfl, past⟩
  · rfl
  · rw [Store.read, if_neg (ne_of_past past (by decide)), if_neg (ne_of_past past (by decide)), if_neg (ne_of_past past (by decide)),
      if_neg (ne_of_past past (by decide))]
  · rw [read_route, fin?_of_past past]
    rfl
  · rw [read_softKey, fin?_of_past (toNat_and_low idx ▸ past)]
    rfl
  · rw [read_glyph, fin?_of_past past]
    rfl
  · rw [read_energy, fin?_of_past past]
    rfl

/-- The first data byte of a route, by its fields. -/
def routeFieldByte (print transmit controller dropBlocked : Bool) (t : Translate) (y : Style) : Byte :=
  let bit (b : Bool) (n : Nat) : Nat := if b then 2 ^ n else 0
  BitVec.ofNat 8 (bit print 0 + bit transmit 1 + bit controller 2 + 8 * t.bits.toNat + 32 * y.bits.toNat + bit dropBlocked 7)

theorem route_bytes (e : Route) : e.bytes
    = [routeFieldByte e.print e.transmit e.controller e.dropBlocked e.translate e.style, if e.locked then 1 else 0] := by
  cases locked : e.locked <;> simp [Route.bytes, routeFieldByte, locked]

theorem routeFieldByte_bits (print transmit controller dropBlocked : Bool) (t : Translate) (y : Style) :
    let a := routeFieldByte print transmit controller dropBlocked t y
    a.getLsbD 0 = print ∧ a.getLsbD 1 = transmit ∧ a.getLsbD 2 = controller
    ∧ (a.getLsbD 3 = true ↔ t = .upper) ∧ (a.getLsbD 4 = true ↔ t = .sevenBit)
    ∧ (a.getLsbD 5 = true ↔ y = .wide ∨ y = .inverse) ∧ (a.getLsbD 6 = true ↔ y = .tall ∨ y = .inverse)
    ∧ a.getLsbD 7 = dropBlocked := by
  revert print transmit controller dropBlocked
  cases t <;> cases y <;> decide

theorem getLsbD_patternBytes (p : Pattern) {j b : Nat} (byte : j < 24) (bit : b < 8) :
    (byteAt (patternBytes p) j).getLsbD b = p.getLsbD (8 * j + b) := by
  have at_j : byteAt (patternBytes p) j = p.extractLsb' (8 * j) 8 := by simp [byteAt, patternBytes, List.getD_eq_getElem?_getD, byte]
  rw [at_j, BitVec.getLsbD_extractLsb', decide_eq_true bit, Bool.true_and]

/-! ## SET REMOTE MASK (R87) -/

theorem flagByte_of_flag? {b : Byte} {x : Bool} (flag : flag? b = some x) : flagByte x = b := by
  unfold flag? at flag
  split at flag
  · next zero => cases flag; exact zero.symm
  · split at flag
    · next one => cases flag; exact one.symm
    · cases flag

section
variable {p : List Byte}

theorem remoteMask?_of_past (past : 2 ≤ (byteAt p 0).toNat ∨ 2 ≤ (byteAt p 1).toNat ∨ 2 ≤ (byteAt p 2).toNat ∨ 2 ≤ (byteAt p 3).toNat) :
    remoteMask? p = none := by
  rcases past with past | past | past | past <;> simp [remoteMask?, flag?_of_past past]

theorem remoteMask?_of_flags {a b c d : Bool} (ha : flag? (byteAt p 0) = some a) (hb : flag? (byteAt p 1) = some b)
    (hc : flag? (byteAt p 2) = some c) (hd : flag? (byteAt p 3) = some d) :
    remoteMask? p = some { routes := a, softKeys := b, glyphs := c, energy := d } := by
  simp [remoteMask?, ha, hb, hc, hd]

end

/-! ## The commands -/

theorem writeStoreBody_of_bad {p : List Byte} (bad : checkStore p = .short ∨ checkStore p = .badField) (s : State) :
    writeStoreBody p s = s.refuse .badField := by
  rcases bad with bad | bad <;> rw [writeStoreBody, bad]

theorem writeStoreBody_of_ok {p : List Byte} {x : StoreWrite} (ok : checkStore p = .ok x) (s : State) :
    writeStoreBody p s = if s.store.fits x then (s.setStore (s.store.write x)).done [] else s.refuse .full := by
  rw [writeStoreBody, ok]

theorem completes_writeStore {p : List Byte} {s : State} (two : 2 ≤ p.length) (short : p.length ≤ 72) :
    let w := s.wake .command
    (checkStore p = .short ∨ checkStore p = .badField → Completes (.writeStore p) s (w.respond { result := .badField }))
    ∧ (∀ x, checkStore p = .ok x →
        (s.store.fits x = false → Completes (.writeStore p) s (w.respond { result := .full }))
        ∧ (s.store.fits x = true → Completes (.writeStore p) s
            ((w.setStore (w.store.write x)).respond { result := .done }))) := by
  intro w
  have store : w.store = s.store := wake_store _ _
  refine ⟨fun bad => completes_of_portBody rfl two short (writeStoreBody_of_bad bad _), fun x ok => ⟨fun full => ?_, fun room => ?_⟩⟩
  · exact completes_of_portBody rfl two short ((writeStoreBody_of_ok ok w).trans (if_neg (by rw [store, full]; exact Bool.false_ne_true)))
  · exact completes_of_portBody rfl two short ((writeStoreBody_of_ok ok w).trans (if_pos (by rw [store, room])))

theorem completes_readStore {p : List Byte} {s : State} (two : 2 ≤ p.length) (short : p.length ≤ 72) :
    let w := s.wake .command
    (s.store.read (byteAt p 0) (byteAt p 1) = none → Completes (.readStore p) s (w.respond { result := .badField }))
    ∧ (∀ bytes, s.store.read (byteAt p 0) (byteAt p 1) = some bytes →
        Completes (.readStore p) s (w.respond { result := .done, payload := bytes })) := by
  intro w
  have store : w.store = s.store := wake_store _ _
  rw [← store]
  exact ⟨fun bad => completes_of_portBody rfl two short (field_none bad _ _),
    fun bytes read => completes_of_portBody rfl two short (field_some read _ _)⟩

theorem completes_setRemoteMask {p : List Byte} {s : State} (four : 4 ≤ p.length) (short : p.length ≤ 72) :
    let w := s.wake .command
    (2 ≤ (byteAt p 0).toNat ∨ 2 ≤ (byteAt p 1).toNat ∨ 2 ≤ (byteAt p 2).toNat ∨ 2 ≤ (byteAt p 3).toNat →
      Completes (.setRemoteMask p) s (w.respond { result := .badField }))
    ∧ (∀ a b c d, flag? (byteAt p 0) = some a → flag? (byteAt p 1) = some b → flag? (byteAt p 2) = some c →
        flag? (byteAt p 3) = some d → Completes (.setRemoteMask p) s
          ((w.setStore { w.store with remoteMask := { routes := a, softKeys := b, glyphs := c, energy := d } }).respond
            { result := .done, payload := [byteAt p 0, byteAt p 1, byteAt p 2, byteAt p 3] })) := by
  intro w
  refine ⟨fun past => completes_of_portBody rfl four short (field_none (remoteMask?_of_past past) _ _), fun a b c d ha hb hc hd => ?_⟩
  have bytes : RemoteMask.bytes { routes := a, softKeys := b, glyphs := c, energy := d }
      = [byteAt p 0, byteAt p 1, byteAt p 2, byteAt p 3] := by
    rw [RemoteMask.bytes, flagByte_of_flag? ha, flagByte_of_flag? hb, flagByte_of_flag? hc, flagByte_of_flag? hd]
  rw [← bytes]
  exact completes_of_portBody rfl four short (field_some (remoteMask?_of_flags ha hb hc hd) _ _)

/-! ## A write's checks in full -/

section
variable {p : List Byte} (two : 2 ≤ p.length)
include two

theorem checkStore_route_cases (sel : byteAt p 0 = 1) :
    let a := byteAt p 2
    let b := byteAt p 3
    let wrong := 2 ≤ b.toNat ∨ (a.getLsbD 3 = true ∧ a.getLsbD 4 = true)
    (16 ≤ (byteAt p 1).toNat → checkStore p = .badField)
    ∧ (∀ n : Fin 16, byteAt p 1 = BitVec.ofNat 8 n.val →
        (p.length < 4 → checkStore p = .short)
        ∧ (4 ≤ p.length → wrong → checkStore p = .badField)
        ∧ (4 ≤ p.length → ¬ wrong → checkStore p = .ok (.route n
            { print := a.getLsbD 0, transmit := a.getLsbD 1, controller := a.getLsbD 2
              translate := if a.getLsbD 4 then .sevenBit else if a.getLsbD 3 then .upper else .none
              style := if a.getLsbD 6 then (if a.getLsbD 5 then .inverse else .tall) else if a.getLsbD 5 then .wide else .normal
              dropBlocked := a.getLsbD 7, locked := b.getLsbD 0, overflow := false }))) := by
  intro a b wrong
  rw [checkStore_route two sel]
  refine ⟨checkRoute_of_past, fun n index => ?_⟩
  have length : (p.drop 2).length = p.length - 2 := List.length_drop
  have number : fin? 16 (byteAt p 1) = some n := index ▸ fin?_ofNat (by decide) n
  have bytes := routeOfBytes_eq (byteAt (p.drop 2) 0) (byteAt (p.drop 2) 1)
  rw [byteAt_drop, byteAt_drop] at bytes
  refine ⟨fun few => checkRoute_of_short number (by omega), fun enough bad => ?_, fun enough good => ?_⟩
  · exact (checkRoute_of_bytes number (by omega)).1 (by rw [byteAt_drop, byteAt_drop, bytes, if_pos bad])
  · exact (checkRoute_of_bytes number (by omega)).2 _ (by rw [byteAt_drop, byteAt_drop, bytes, if_neg good])

theorem checkStore_softKey_cases (sel : byteAt p 0 = 2) :
    let len := (byteAt p 2).toNat
    (12 ≤ (byteAt p 1).toNat % 16 → checkStore p = .badField)
    ∧ (∀ (n : Fin 12) (route : Fin 16), byteAt p 1 = BitVec.ofNat 8 (n.val + 16 * route.val) →
        (p.length < 3 + len → checkStore p = .short)
        ∧ (3 + len ≤ p.length → 64 < len → checkStore p = .badField)
        ∧ (3 + len ≤ p.length → len ≤ 64 → checkStore p = .ok (.softKey n { string := (p.drop 3).take len, route := route }))) := by
  intro len
  rw [checkStore_softKey two sel]
  refine ⟨checkSoftKey_of_past, fun n route index => ?_⟩
  have length : (p.drop 2).length = p.length - 2 := List.length_drop
  have whole : (byteAt p 1).toNat = n.val + 16 * route.val := by
    rw [index, BitVec.toNat_ofNat]
    omega
  have number : fin? 12 (byteAt p 1 &&& 0x0F) = some n := by
    rw [fin?_eq_some_iff, toNat_and_low, whole]
    omega
  have high : ((byteAt p 1).extractLsb' 4 4).toFin = route := by
    apply Fin.ext
    show ((byteAt p 1).extractLsb' 4 4).toNat = route.val
    rw [BitVec.extractLsb'_toNat, whole, Nat.shiftRight_eq_div_pow]
    omega
  have byte : byteAt (p.drop 2) 0 = byteAt p 2 := byteAt_drop _ _ _
  rw [checkSoftKey_of_number number, byte, length, high, List.drop_drop]
  exact ⟨fun few => if_pos (by omega), fun enough past => (if_neg (by omega)).trans (if_pos past),
    fun enough fits => (if_neg (by omega)).trans (if_neg (Nat.not_lt.mpr fits))⟩

theorem checkStore_glyph_cases (sel : byteAt p 0 = 3) :
    (32 ≤ (byteAt p 1).toNat → checkStore p = .badField)
    ∧ (∀ n : Fin 32, byteAt p 1 = BitVec.ofNat 8 n.val →
        (p.length < 27 → checkStore p = .short)
        ∧ (27 ≤ p.length → 2 ≤ (byteAt p 2).toNat → checkStore p = .badField)
        ∧ (27 ≤ p.length → (byteAt p 2).toNat < 2 → ∃ g : Glyph, checkStore p = .ok (.glyph n g)
            ∧ (g.valid = true ↔ byteAt p 2 = 1)
            ∧ ∀ c : Fin 12, ∀ r : Fin 16,
                Pattern.dot g.pattern c.val r.val = (byteAt p (3 + 2 * c.val + r.val / 8)).getLsbD (r.val % 8))) := by
  rw [checkStore_glyph two sel]
  refine ⟨checkGlyph_of_past, fun n index => ?_⟩
  have length : (p.drop 2).length = p.length - 2 := List.length_drop
  have number : fin? 32 (byteAt p 1) = some n := index ▸ fin?_ofNat (by decide) n
  have byte : byteAt (p.drop 2) 0 = byteAt p 2 := byteAt_drop _ _ _
  refine ⟨fun few => checkGlyph_of_short number (by omega), fun enough bad => checkGlyph_of_bad_flag number (by omega) (byte ▸ bad),
    fun enough flag => ?_⟩
  have flagged : flag? (byteAt p 2) = some (decide (byteAt p 2 = 1)) := by
    generalize byteAt p 2 = b at flag
    have two : b = 0 ∨ b = 1 := by bv_omega
    rcases two with rfl | rfl <;> rfl
  refine ⟨_, checkGlyph_of_flag number (by omega) (byte ▸ flagged), decide_eq_true_iff, fun c r => ?_⟩
  have at_byte : 2 + 1 + (16 * c.val + r.val) / 8 = 3 + 2 * c.val + r.val / 8 := by omega
  have at_bit : (16 * c.val + r.val) % 8 = r.val % 8 := by omega
  rw [Pattern.dot, getLsbD_patternOfBytes _ (by omega), List.drop_drop, byteAt_take (by omega), byteAt_drop, at_byte, at_bit]

theorem checkStore_energy_cases (sel : byteAt p 0 = 4) : (16 ≤ (byteAt p 1).toNat → checkStore p = .badField)
    ∧ ((byteAt p 1).toNat < 16 → p.length < 4 → checkStore p = .short) := by
  rw [checkStore_energy two sel]
  have length : (p.drop 2).length = p.length - 2 := List.length_drop
  exact ⟨checkEnergy_of_past, fun low few => (checkEnergy_of_number (fin?_of_lt low)).trans (if_pos (by omega))⟩

end

theorem checkStore_energy_ok {p : List Byte} {n : Fin 16} (four : 4 ≤ p.length) (sel : byteAt p 0 = 4)
    (index : byteAt p 1 = BitVec.ofNat 8 n.val) : checkStore p = .ok (.energy n
      (if n.val ≤ 7 then max 100 (min 3000 (wordAt (p.drop 2) 0))
       else if n.val = 8 then min 7 (wordAt (p.drop 2) 0)
       else if n.val = 9 then min 31 (wordAt (p.drop 2) 0) else min 15 (wordAt (p.drop 2) 0))) := by
  have length : (p.drop 2).length = p.length - 2 := List.length_drop
  rw [checkStore_energy (by omega) sel, index, checkEnergy_of_number (fin?_ofNat (by decide) n), energyClamp_eq]
  exact if_neg (by omega)

/-! ## The obligation -/

theorem route_write_cases (st : Store) (n : Fin 16) (e : Route) :
    (st.write (.route n e)).route n = { e with overflow := false }
    ∧ (st.remoteWrite (.route n e)).route n = { e with overflow := false, locked := (st.route n).locked }
    ∧ (∀ m : Fin 16, m ≠ n → (st.write (.route n e)).route m = st.route m)
    ∧ ({ st.write (.route n e) with routes := st.routes } : Store) = st
    ∧ (∀ m : Fin 16, m ≠ n → (st.remoteWrite (.route n e)).route m = st.route m)
    ∧ ({ st.remoteWrite (.route n e) with routes := st.routes } : Store) = st :=
  ⟨(route_setRoute st n n _).trans (if_pos rfl), (route_setRoute st n n _).trans (if_pos rfl),
    fun m other => (route_setRoute st n m _).trans (if_neg other.symm), rfl,
    fun m other => (route_setRoute st n m _).trans (if_neg other.symm), rfl⟩

theorem read_route_number (st : Store) (n : Fin 16) :
    let e := st.route n
    ∃ a : Byte, st.read 1 (BitVec.ofNat 8 n.val)
        = some [1, BitVec.ofNat 8 n.val, a, if e.locked then 1 else 0, if e.overflow then 1 else 0]
      ∧ a.getLsbD 0 = e.print ∧ a.getLsbD 1 = e.transmit ∧ a.getLsbD 2 = e.controller
      ∧ (a.getLsbD 3 = true ↔ e.translate = .upper) ∧ (a.getLsbD 4 = true ↔ e.translate = .sevenBit)
      ∧ (a.getLsbD 5 = true ↔ e.style = .wide ∨ e.style = .inverse) ∧ (a.getLsbD 6 = true ↔ e.style = .tall ∨ e.style = .inverse)
      ∧ a.getLsbD 7 = e.dropBlocked := by
  intro e
  refine ⟨_, ?_, routeFieldByte_bits e.print e.transmit e.controller e.dropBlocked e.translate e.style⟩
  rw [read_route, fin?_ofNat (by decide), Option.map_some, route_bytes]
  rfl

theorem read_glyph_number (st : Store) (n : Fin 32) :
    let g := st.glyphs[n]
    ∃ bytes : List Byte, st.read 3 (BitVec.ofNat 8 n.val) = some (3 :: BitVec.ofNat 8 n.val :: (if g.valid then 1 else 0) :: bytes)
      ∧ bytes.length = 24
      ∧ ∀ c : Fin 12, ∀ r : Fin 16,
          (byteAt bytes (2 * c.val + r.val / 8)).getLsbD (r.val % 8) = Pattern.dot g.pattern c.val r.val := by
  intro g
  refine ⟨patternBytes g.pattern, ?_, by simp [patternBytes], fun c r => ?_⟩
  · rw [read_glyph, fin?_ofNat (by decide), Option.map_some]
    rfl
  · rw [getLsbD_patternBytes _ (by omega) (by omega), Pattern.dot]
    congr 1
    omega

/-- Settles O40: each selector's checks, its write and its bytes. -/
theorem storeIsWrittenAndRead : Obligations.StoreIsWrittenAndRead := by
  refine ⟨⟨rfl, rfl, fun _ => flag?_of_past⟩, fun p s two short => completes_writeStore two short, fun p short => if_pos short,
    fun p => checkStore_of_bad_selector, fun p => checkStore_route_cases, fun p => checkStore_softKey_cases,
    fun p => checkStore_glyph_cases, fun p => checkStore_energy_cases, fun p n => checkStore_energy_ok, fits_softKey_iff,
    fun st n e => rfl, fun st n g => rfl, fun st n v => rfl, route_write_cases, fun st n k => ?softKey, fun st n g => ?glyph,
    fun st n v => ?energy, fun p s two short => completes_readStore two short, fun st sel idx => read_of_bad, read_route_number,
    fun st n idx low => ?readSoftKey, read_glyph_number, fun st n => ?readEnergy, fun p s four short => completes_setRemoteMask four short⟩
  case softKey =>
    exact ⟨(getElem_set_fin _ n n k).trans (if_pos rfl), fun m other => (getElem_set_fin _ n m k).trans (if_neg other.symm), rfl, rfl⟩
  case glyph =>
    exact ⟨(getElem_set_fin _ n n g).trans (if_pos rfl), fun m other => (getElem_set_fin _ n m g).trans (if_neg other.symm), rfl, rfl⟩
  case energy =>
    exact ⟨(getElem_set_fin _ n n v).trans (if_pos rfl), fun m other => (getElem_set_fin _ n m v).trans (if_neg other.symm), rfl, rfl⟩
  case readSoftKey =>
    intro k
    have number : fin? 12 (idx &&& 0x0F) = some n := fin?_eq_some_iff.mpr ((toNat_and_low idx).trans low)
    rw [read_softKey, number]
    rfl
  case readEnergy =>
    rw [read_energy, fin?_ofNat (by decide)]
    rfl

end Sys2Proof.Machine
end

section
/-!
SUPPORT. The Router's take where some sink of the route has no room (R100, R101).
-/

namespace Sys2Proof.Machine

/-- Room at the sinks for one unit. -/
theorem sinkRoom_one (s : State) (e : Route) : sinkRoom s .p0 e 1 = (!e.print || decide (s.arb.p0.cells.length < 160),
    !e.transmit || decide (s.tx.ttq.length < 128), !e.controller || decide (s.crq.length < 64)) := by
  have print : decide (1 ≤ s.arb.room .p0) = decide (s.arb.p0.cells.length < 160) := decide_eq_decide.mpr Nat.sub_pos_iff_lt
  have transmit : decide (1 ≤ s.ttqRoom) = decide (s.tx.ttq.length < 128) := decide_eq_decide.mpr Nat.sub_pos_iff_lt
  have controller : decide (1 ≤ s.crqRoom) = decide (s.crq.length < 64) := decide_eq_decide.mpr Nat.sub_pos_iff_lt
  rw [sinkRoom, print, transmit, controller]

/-- The three rooms are there, or some named sink is full. -/
theorem rooms_false_iff (e : Route) (a b c : Nat) :
    ((!e.print || decide (a < 160)) && (!e.transmit || decide (b < 128)) && (!e.controller || decide (c < 64))) = false
    ↔ (e.print = true ∧ 160 ≤ a) ∨ (e.transmit = true ∧ 128 ≤ b) ∨ (e.controller = true ∧ 64 ≤ c) := by
  simp only [Bool.and_eq_false_iff, Bool.or_eq_false_iff, Bool.not_eq_false', decide_eq_false_iff_not, Nat.not_lt, or_assoc]

theorem flowCompare_frame (s : State) : s.flowCompare.arb = s.arb ∧ s.flowCompare.tx.ttq = s.tx.ttq ∧ s.flowCompare.crq = s.crq
    ∧ s.flowCompare.store = s.store ∧ s.flowCompare.port = s.port ∧ s.flowCompare.rtq = s.rtq := by
  unfold State.flowCompare
  split <;> exact ⟨rfl, rfl, rfl, rfl, rfl, rfl⟩

theorem routeTakes_of_cons {s : State} {c : TextCell} {rest : List TextCell} (head : s.rtq = c :: rest) :
    s.routeTakes = s.routeRoom c.route := by rw [State.routeTakes, head]

/-- The Router's take of the head cell, sink by sink. -/
theorem routeHead_parts {s : State} {c : TextCell} {rest : List TextCell} (head : s.rtq = c :: rest) :
    let e := s.store.route c.route
    let hasRoom1 := !e.print || decide (s.arb.p0.cells.length < 160)
    let hasRoomT := !e.transmit || decide (s.tx.ttq.length < 128)
    let hasRoomC := !e.controller || decide (s.crq.length < 64)
    let dropped := !(hasRoom1 && hasRoomT && hasRoomC)
    let t := s.routeHead
    t.arb = (if e.print && hasRoom1 then { s.arb with p0 := { s.arb.p0 with
      cells := s.arb.p0.cells ++ [{ body := .char (s.deliveredCode c) e.style, entered := s.now }]
      admitted := s.arb.p0.admitted + 1 } } else s.arb)
    ∧ t.tx.ttq = (if e.transmit && hasRoomT then s.tx.ttq ++ [s.deliveredCode c] else s.tx.ttq)
    ∧ t.crq = (if e.controller && hasRoomC then s.crq ++ [.character c.route (s.deliveredCode c) c.substituted] else s.crq)
    ∧ t.store = (if dropped then s.store.setRoute c.route { e with overflow := true } else s.store)
    ∧ t.port = s.port.raisedIf dropped .routeOverflow ∧ t.rtq = rest := by
  intro e hasRoom1 hasRoomT hasRoomC dropped t
  have delivered := deliver_eq (s.setRtq rest) .p0 c.route [s.deliveredCode c] c.substituted
  dsimp only at delivered
  have room : sinkRoom (s.setRtq rest) .p0 ((s.setRtq rest).store.route c.route) [s.deliveredCode c].length = (hasRoom1, hasRoomT, hasRoomC) :=
    sinkRoom_one (s.setRtq rest) e
  rw [room] at delivered
  have is : t = _ := (routeHead_of_cons head).trans (congrArg State.flowCompare delivered)
  obtain ⟨arb, ttq, crq, store, port, rtq⟩ := flowCompare_frame ((((((s.setRtq rest).setArb (if e.print && hasRoom1 then
      s.arb.setPort .p0 ((s.arb.port .p0).putCells s.now ([s.deliveredCode c].map fun c => .char c e.style)) else s.arb)).setTx
        { s.tx with ttq := if e.transmit && hasRoomT then s.tx.ttq ++ [s.deliveredCode c] else s.tx.ttq }).setCrq
          (if e.controller && hasRoomC then s.crq ++ [s.deliveredCode c].map fun d => .character c.route d c.substituted else s.crq)).setStore
            (if dropped then s.store.setRoute c.route { e with overflow := true } else s.store)).setPort
              (s.port.raisedIf dropped .routeOverflow))
  rw [is]
  exact ⟨arb, ttq, crq, store, port, rtq⟩

section
variable {named : Bool} {n cap : Nat}

theorem sink_receives (is : named = true) (room : n < cap) : (named && (!named || decide (n < cap))) = true := by
  simp [is, room]

theorem sink_receives_not (stays : (named = true ∧ cap ≤ n) ∨ named = false) : ¬ (named && (!named || decide (n < cap))) = true := by
  rcases stays with ⟨is, full⟩ | off
  · simp [is, full]
  · simp [off]

end

/-- Settles O42: sink by sink, and the mark of the drop. -/
theorem blockedSinkWaitsOrDrops : Obligations.BlockedSinkWaitsOrDrops := by
  intro s c rest head e noPrint noTransmit noController
  have takes := routeTakes_of_cons head
  rw [State.routeRoom, sinkRoom_one] at takes
  obtain ⟨arb, ttq, crq, store, port, rtq⟩ := routeHead_parts head
  have rooms := rooms_false_iff e s.arb.p0.cells.length s.tx.ttq.length s.crq.length
  refine ⟨fun waits => ?_, fun drops => ?_, fun full => ?_, fun p1 pt pc => ?_, fun named room => arb.trans (if_pos (sink_receives named room)),
    fun stays => arb.trans (if_neg (sink_receives_not stays)), fun named room => ttq.trans (if_pos (sink_receives named room)),
    fun stays => ttq.trans (if_neg (sink_receives_not stays)), fun named room => crq.trans (if_pos (sink_receives named room)),
    fun stays => crq.trans (if_neg (sink_receives_not stays)), fun n other => ?_⟩
  · rw [takes, waits, Bool.false_or]
    exact rooms
  · rw [takes, drops, Bool.true_or]
  · rw [rooms.mpr full] at store port
    refine ⟨?_, ?_, rtq⟩
    · rw [store]
      exact congrArg Route.overflow ((route_setRoute _ _ _ _).trans (if_pos rfl))
    · rw [port, namesCause_raisedIf]
      simp
  · have all := (Bool.not_eq_false _).mp (mt rooms.mp fun full => full.elim p1 fun later => later.elim pt pc)
    rw [all] at store port
    exact ⟨store, port⟩
  · rw [store]
    split
    · exact (route_setRoute _ _ _ _).trans (if_neg other.symm)
    · rfl

end Sys2Proof.Machine
end

section
/-!
SUPPORT. The walk that cuts a text line (R116), when a port is eligible (R117), and the Composer's append and finish (R138, R120).
-/

namespace Sys2Proof.Machine

open Sys2Proof.Laws

/-! ## The walk, by the cell it meets (R116) -/

theorem isPrinted_iff (c : Byte) : isPrinted c = true ↔ 0x20 ≤ c.toNat := decide_eq_true_iff

theorem isTerminator_iff (cr : CrMode) (c : Byte) :
    isTerminator cr c = true ↔ c = 0x0A ∨ c = 0x0C ∨ (c = 0x0D ∧ cr = .newLine) := by
  rw [isTerminator, Bool.or_eq_true, Bool.or_eq_true, Bool.and_eq_true, beq_iff_eq, beq_iff_eq, beq_iff_eq, beq_iff_eq, or_assoc]
  rfl

theorem styleWidth_eq (y : Style) : styleWidth y = if y = .wide then 24 else 12 := by cases y <;> rfl

theorem tabStop_eq (pos : Nat) : tabStop pos = pos / 96 * 96 + 96 := Nat.succ_mul _ _

section
variable {cr : CrMode} {pos : Nat} {back : List Nat} {passed rest : List PortCell} {c : PortCell}

theorem walkLine_jobStart (body : c.body = .jobStart) : walkLine cr pos back passed (c :: rest)
    = if passed.isEmpty then some ([c], rest) else some (passed.reverse, c :: rest) := by rw [walkLine, body]

theorem walkLine_jobEnd (body : c.body = .jobEnd) :
    walkLine cr pos back passed (c :: rest) = some ((c :: passed).reverse, rest) := by rw [walkLine, body]

variable {code : Byte} {style : Style} (body : c.body = .char code style)
include body

theorem walkLine_char : walkLine cr pos back passed (c :: rest)
    = if isPrinted code then
        if 384 < pos + styleWidth style then some (passed.reverse, c :: rest)
        else walkLine cr (pos + styleWidth style) (styleWidth style :: back) (c :: passed) rest
      else if isTerminator cr code then some ((c :: passed).reverse, rest)
      else if code = codeHT then
        if 384 < tabStop pos then some ((c :: passed).reverse, rest)
        else walkLine cr (tabStop pos) back (c :: passed) rest
      else if code = codeBS then walkLine cr (pos - back.headD 0) back.tail (c :: passed) rest
      else walkLine cr pos back (c :: passed) rest := by
  rw [walkLine, body]
  rfl

theorem walkLine_printed (printed : 0x20 ≤ code.toNat) : walkLine cr pos back passed (c :: rest)
    = if 384 < pos + styleWidth style then some (passed.reverse, c :: rest)
      else walkLine cr (pos + styleWidth style) (styleWidth style :: back) (c :: passed) rest :=
  (walkLine_char body).trans (if_pos ((isPrinted_iff code).mpr printed))

theorem walkLine_control (control : code.toNat < 0x20) : walkLine cr pos back passed (c :: rest)
    = if isTerminator cr code then some ((c :: passed).reverse, rest)
      else if code = codeHT then
        if 384 < tabStop pos then some ((c :: passed).reverse, rest)
        else walkLine cr (tabStop pos) back (c :: passed) rest
      else if code = codeBS then walkLine cr (pos - back.headD 0) back.tail (c :: passed) rest
      else walkLine cr pos back (c :: passed) rest :=
  (walkLine_char body).trans (if_neg (mt (isPrinted_iff code).mp (Nat.not_le.mpr control)))

theorem walkLine_terminator (ends : code = 0x0A ∨ code = 0x0C ∨ (code = 0x0D ∧ cr = .newLine)) :
    walkLine cr pos back passed (c :: rest) = some (passed.reverse ++ [c], rest) := by
  have control : code.toNat < 0x20 := by rcases ends with rfl | rfl | ⟨rfl, -⟩ <;> decide
  rw [walkLine_control body control, if_pos ((isTerminator_iff cr code).mpr ends), List.reverse_cons]

theorem walkLine_tab (tab : code = 0x09) : walkLine cr pos back passed (c :: rest)
    = if 384 < tabStop pos then some (passed.reverse ++ [c], rest) else walkLine cr (tabStop pos) back (c :: passed) rest := by
  subst tab
  have goesOn : ¬ isTerminator cr 0x09 = true := by cases cr <;> decide
  rw [walkLine_control body (by decide), if_neg goesOn, List.reverse_cons]
  exact if_pos rfl

theorem walkLine_backspace (bs : code = 0x08) :
    walkLine cr pos back passed (c :: rest) = walkLine cr (pos - back.headD 0) back.tail (c :: passed) rest := by
  subst bs
  have goesOn : ¬ isTerminator cr 0x08 = true := by cases cr <;> decide
  rw [walkLine_control body (by decide), if_neg goesOn, if_neg (by decide)]
  exact if_pos rfl

theorem walkLine_passed (control : code.toNat < 0x20) (notBs : code ≠ 0x08) (notTab : code ≠ 0x09)
    (goesOn : ¬ (code = 0x0A ∨ code = 0x0C ∨ (code = 0x0D ∧ cr = .newLine))) :
    walkLine cr pos back passed (c :: rest) = walkLine cr pos back (c :: passed) rest := by
  rw [walkLine_control body control, if_neg (mt (isTerminator_iff cr code).mp goesOn)]
  exact (if_neg notTab).trans (if_neg notBs)

end

/-- A walk that has passed a cell, or is at the left edge, cuts no empty line. -/
theorem walkLine_ne_nil {cr : CrMode} {cells : List PortCell} {pos : Nat} {back : List Nat} {passed line rest : List PortCell}
    (begun : pos = 0 ∨ passed ≠ []) (cut : walkLine cr pos back passed cells = some (line, rest)) : line ≠ [] := by
  induction cells generalizing pos back passed with
  | nil => cases cut
  | cons c ahead ih =>
    have goOn {pos : Nat} {back : List Nat} : walkLine cr pos back (c :: passed) ahead = some (line, rest) → line ≠ [] :=
      ih (.inr (List.cons_ne_nil _ _))
    have withCell (ends : some ((c :: passed).reverse, ahead) = some (line, rest)) : line ≠ [] := by
      cases ends
      simp
    cases body : c.body with
    | jobStart =>
      rw [walkLine_jobStart body] at cut
      split at cut
      · cases cut
        simp
      · next some =>
        cases cut
        simpa using some
    | jobEnd =>
      rw [walkLine_jobEnd body] at cut
      exact withCell cut
    | char code style =>
      rw [walkLine_char body] at cut
      split at cut
      · split at cut
        · next past =>
          have width : styleWidth style ≤ 24 := by cases style <;> decide
          cases cut
          simpa using begun.resolve_left (by omega)
        · exact goOn cut
      · split at cut
        · exact withCell cut
        · split at cut
          · split at cut
            · exact withCell cut
            · exact goOn cut
          · split at cut
            · exact goOn cut
            · exact goOn cut

theorem completeLine_split {cr : CrMode} {cells line rest : List PortCell} (complete : completeLine cr cells = some (line, rest)) :
    line ++ rest = cells ∧ line ≠ [] :=
  ⟨walkLine_split cr 0 [] [] cells line rest complete, walkLine_ne_nil (.inl rfl) complete⟩

/-! ## Eligible ports (R117) -/

theorem agedHead_iff (now timeoutMs : Nat) (cells : List PortCell) :
    agedHead now timeoutMs cells = true ↔ ∃ c rest, cells = c :: rest ∧ c.entered + 3000 * timeoutMs ≤ now := by
  cases cells with
  | nil => simp [agedHead]
  | cons c rest =>
    have ofHead : agedHead now timeoutMs (c :: rest) = decide (c.entered + timeoutMs * 3000 ≤ now) := rfl
    simp [ofHead, Nat.mul_comm]

theorem grantLine_of_complete {cr : CrMode} {now timeoutMs : Nat} {cells : List PortCell} (complete : completeLine cr cells ≠ none) :
    grantLine cr now timeoutMs cells = completeLine cr cells := by
  obtain ⟨l, is⟩ := Option.isSome_iff_exists.mp (Option.isSome_iff_ne_none.mpr complete)
  rw [grantLine, is]

theorem grantLine_of_partial {cr : CrMode} {now timeoutMs : Nat} {cells : List PortCell} (incomplete : completeLine cr cells = none) :
    grantLine cr now timeoutMs cells = if agedHead now timeoutMs cells then some (cells, []) else none := by
  rw [grantLine, incomplete]

/-! ## The Composer (R138, R120) -/

theorem canAppend_iff (c : Composer) : c.canAppend = true ↔ ∃ l, c.line = some l ∧ l.entries ≠ [] ∧ c.rows.length < 4 := by
  have room : decide (c.rows.length < Config.rowCap) = decide (c.rows.length < 4) := rfl
  unfold Composer.canAppend
  rw [room]
  cases c.line <;> simp

theorem canFinish_iff (c : Composer) : c.canFinish = true ↔ ∃ l, c.line = some l ∧ l.entries = [] := by
  unfold Composer.canFinish
  cases c.line <;> simp

theorem append_of_cons {c : Composer} {l : CompLine} {e : RowEntry} {es : List RowEntry} (line : c.line = some l)
    (entries : l.entries = e :: es) : c.append = { c with line := some { l with entries := es }, rows := c.rows ++ [e] } := by
  rw [Composer.append, line]
  simp [entries]

theorem jobOf?_toPort (p : JobPort) : jobOf? p.toPort = some p := by cases p <;> rfl

section
variable {s : State} {l : CompLine} (line : s.comp.line = some l)
include line

theorem finishLine_of_no_end (open' : l.jobEnd = false) : s.finishLine = s.setComp { s.comp with line := none } := by
  rw [State.finishLine, line]
  simp only [open']

theorem finishLine_of_end {p : JobPort} (ends : l.jobEnd = true) (port : l.port = p.toPort) :
    let u := s.setComp { s.comp with line := none }
    s.finishLine = (if s.arb.hold = some p then u.setArb { s.arb with hold := none, stall := none } else u).post (.jobEvent p .complete) := by
  rw [State.finishLine, line]
  simp only [ends, port, jobOf?_toPort]
  rfl

end

/-- Settles O43: the walk by the cell it meets; that it cuts no empty line is by induction on the cells. -/
theorem linesAreCutAndFinished : Obligations.LinesAreCutAndFinished := by
  refine ⟨fun cr pos back passed rest c => ?walk, fun cr cells line rest => ⟨rfl, completeLine_split⟩, fun s q => ?eligible,
    fun c => ⟨canAppend_iff c, canFinish_iff c, fun l e es => append_of_cons⟩, fun s l line => ?finish⟩
  case walk =>
    refine ⟨rfl, fun body => ⟨fun first => ?_, fun later => ?_⟩, fun body => ?_, fun code style body => ?_⟩
    · exact (walkLine_jobStart body).trans (if_pos (List.isEmpty_iff.mpr first))
    · exact (walkLine_jobStart body).trans (if_neg (mt List.isEmpty_iff.mp later))
    · rw [walkLine_jobEnd body, List.reverse_cons]
    · intro w tab
      have width : styleWidth style = w := styleWidth_eq style
      have stop : tabStop pos = tab := tabStop_eq pos
      refine ⟨fun printed => ?_, walkLine_terminator body, fun isTab => ?_, fun isBs => ?_, fun control notBs notTab notLf notFf ignored => ?_⟩
      · have walks := walkLine_printed (cr := cr) (pos := pos) (back := back) (passed := passed) (rest := rest) body printed
        rw [width] at walks
        exact ⟨fun past => walks.trans (if_pos past), fun fits => walks.trans (if_neg (Nat.not_lt.mpr fits))⟩
      · have walks := walkLine_tab (cr := cr) (pos := pos) (back := back) (passed := passed) (rest := rest) body isTab
        rw [stop] at walks
        exact ⟨fun past => walks.trans (if_pos past), fun fits => walks.trans (if_neg (Nat.not_lt.mpr fits))⟩
      · refine ⟨fun none => ?_, fun last before some => ?_⟩
        · subst none
          exact walkLine_backspace body isBs
        · subst some
          exact walkLine_backspace body isBs
      · refine walkLine_passed body control notBs notTab ?_
        rintro (lf | ff | ⟨isCr, newLine⟩)
        · exact notLf lf
        · exact notFf ff
        · exact absurd ((ignored isCr).symm.trans newLine) (by decide)
  case eligible =>
    intro cells complete aged
    have isAged := agedHead_iff s.now s.arb.settings.partialMs cells
    have whole (is : complete ≠ none) : s.textLine q = complete := grantLine_of_complete is
    have part (is : complete = none) : s.textLine q = if agedHead s.now s.arb.settings.partialMs cells then some (cells, []) else none :=
      grantLine_of_partial is
    refine ⟨?_, whole, fun is aged => (part is).trans (if_pos (isAged.mpr aged))⟩
    rw [State.eligible]
    by_cases is : complete = none
    · rw [part is]
      by_cases old : aged
      · simp [isAged.mpr old, old]
      · simp [mt isAged.mp old, is, old]
    · rw [whole is]
      simp [is, Option.isSome_iff_ne_none]
  case finish =>
    intro u
    refine ⟨finishLine_of_no_end line, fun p ends port => ?_⟩
    intro released
    have crq : released.crq = s.crq := by
      simp only [released]
      split <;> rfl
    have finished : s.finishLine = released.post (.jobEvent p .complete) := finishLine_of_end line ends port
    rw [finished, ← crq]
    exact ⟨fun room => post_of_room room _, fun full => post_of_full full _⟩

end Sys2Proof.Machine
end

section
/-!
SUPPORT. The jobs of a print port: what a cancel and a stall remove, release, set and post (R121 to R123); the stall timer (R121, R154); PRINT, CANCEL JOB, PAUSE PRINT and RESUME PRINT (R115, R122, R125).
-/

namespace Sys2Proof.Machine

open Sys2Proof.Laws

/-! ## A job taken out of its port -/

/-- The Arbiter after a job's cells have left their port as discarded: the Job Hold released with its stall timer, and DISCARDING set, where it is so. -/
def Arbiter.dropJob (a : Arbiter) (p : JobPort) (gone rest : List PortCell) (releases discards : Bool) : Arbiter :=
  let a1 := a.setPort p.toPort ((a.port p.toPort).discard gone rest)
  let a2 := if releases then { a1 with hold := none, stall := none } else a1
  if discards then a2.setJob p .discarding else a2

section
variable (a : Arbiter) (p : JobPort) (gone rest : List PortCell) (releases discards : Bool)

theorem dropJob_port_same : (a.dropJob p gone rest releases discards).port p.toPort = (a.port p.toPort).discard gone rest := by
  cases p <;> cases releases <;> cases discards <;> rfl

theorem dropJob_port_other {q : PortId} (other : q ≠ p.toPort) : (a.dropJob p gone rest releases discards).port q = a.port q := by
  have apart := arbiter_port_setPort_other (a := a) other ((a.port p.toPort).discard gone rest)
  cases discards with
  | false => cases releases <;> exact apart
  | true => cases releases <;> exact (arbiter_port_setJob _ p _ q).trans apart

theorem dropJob_released : (a.dropJob p gone rest true discards).hold = none ∧ (a.dropJob p gone rest true discards).stall = none := by
  cases p <;> cases discards <;> exact ⟨rfl, rfl⟩

theorem dropJob_kept : (a.dropJob p gone rest false discards).hold = a.hold ∧ (a.dropJob p gone rest false discards).stall = a.stall := by
  cases p <;> cases discards <;> exact ⟨rfl, rfl⟩

theorem dropJob_job : (a.dropJob p gone rest releases discards).job p = if discards then .discarding else a.job p := by
  cases p <;> cases releases <;> cases discards <;> rfl

theorem dropJob_pause : (a.dropJob p gone rest releases discards).pause = a.pause := by
  cases p <;> cases releases <;> cases discards <;> rfl

end

theorem cancelJob_of_none {s : State} {p : JobPort} (none : s.oldestJob p = none) : s.cancelJob p = s := by
  rw [State.cancelJob, none]

theorem cancelJob_of_some {s : State} {p : JobPort} {gone rest : List PortCell} {holds : Bool}
    (oldest : s.oldestJob p = some (gone, rest, holds)) : s.cancelJob p
    = (s.setArb (s.arb.dropJob p gone rest holds (!holdsMark .jobStart rest && !holdsMark .jobEnd gone))).post (.jobEvent p .cancelled) := by
  rw [State.cancelJob, oldest]
  dsimp only
  cases holds <;> cases (!holdsMark .jobStart rest && !holdsMark .jobEnd gone) <;> rfl

theorem stallJob_eq (s : State) (p : JobPort) : s.stallJob p
    = ((s.setArb (s.arb.dropJob p (jobSpan (s.arb.port p.toPort).cells).1 (jobSpan (s.arb.port p.toPort).cells).2 true true)).post
        (.jobEvent p .stalled)).raise .jobError := rfl

theorem stallJob_arb (s : State) (p : JobPort) : (s.stallJob p).arb
    = s.arb.dropJob p (jobSpan (s.arb.port p.toPort).cells).1 (jobSpan (s.arb.port p.toPort).cells).2 true true := by
  rw [stallJob_eq, raise_arb, post_arb]
  rfl

theorem holdsMark_eq_false_iff (m : CellBody) (l : List PortCell) : holdsMark m l = false ↔ ∀ c ∈ l, c.body ≠ m := by
  simp [holdsMark]

/-! ## The job's cells and the oldest live job (R112, R122) -/

section
variable {c : PortCell} (rest : List PortCell)

theorem jobSpan_jobStart (body : c.body = .jobStart) : jobSpan (c :: rest) = ([], c :: rest) := by rw [jobSpan, body]

theorem jobSpan_jobEnd (body : c.body = .jobEnd) : jobSpan (c :: rest) = ([c], rest) := by rw [jobSpan, body]

theorem jobSpan_char {code : Byte} {style : Style} (body : c.body = .char code style) :
    jobSpan (c :: rest) = (c :: (jobSpan rest).1, (jobSpan rest).2) := by rw [jobSpan, body]

end

/-- A job's cells, by the cell met. -/
theorem jobSpan_cases (c : PortCell) (rest : List PortCell) :
    (c.body = .jobStart → jobSpan (c :: rest) = ([], c :: rest))
    ∧ (c.body = .jobEnd → jobSpan (c :: rest) = ([c], rest))
    ∧ (∀ code style, c.body = .char code style → jobSpan (c :: rest) = (c :: (jobSpan rest).1, (jobSpan rest).2)) :=
  ⟨jobSpan_jobStart rest, jobSpan_jobEnd rest, fun _ _ => jobSpan_char rest⟩

section
variable {s : State} {p : JobPort}

theorem oldestJob_of_holder (holds : s.arb.hold = some p) (live : s.closing p = false) : s.oldestJob p
    = some ((jobSpan (s.arb.port p.toPort).cells).1, (jobSpan (s.arb.port p.toPort).cells).2, true) := by
  unfold State.oldestJob
  exact if_pos (by simp [holds, live])

theorem oldestJob_of_other (other : s.arb.hold ≠ some p ∨ s.closing p = true) :
    ((s.arb.port p.toPort).cells = [] → s.oldestJob p = none)
    ∧ ∀ c rest, (s.arb.port p.toPort).cells = c :: rest →
      (c.body = .jobStart → s.oldestJob p = some (c :: (jobSpan rest).1, (jobSpan rest).2, false))
      ∧ (c.body ≠ .jobStart → s.oldestJob p = none) := by
  have notHolder : ¬ (decide (s.arb.hold = some p) && !s.closing p) = true := by
    rcases other with other | closing
    · simp [other]
    · simp [closing]
  refine ⟨fun empty => ?_, fun c rest cells => ⟨fun start => ?_, fun notStart => ?_⟩⟩
  · unfold State.oldestJob
    rw [if_neg notHolder, empty]
  · unfold State.oldestJob
    rw [if_neg notHolder, cells]
    exact if_pos start
  · unfold State.oldestJob
    rw [if_neg notHolder, cells]
    exact if_neg notStart

theorem hold_of_oldestJob {gone rest : List PortCell} (oldest : s.oldestJob p = some (gone, rest, true)) : s.arb.hold = some p := by
  refine Classical.byContradiction fun other => ?_
  obtain ⟨ofEmpty, ofCons⟩ := oldestJob_of_other (.inl other)
  cases cells : (s.arb.port p.toPort).cells with
  | nil => cases (ofEmpty cells).symm.trans oldest
  | cons c behind =>
    by_cases start : c.body = .jobStart
    · cases ((ofCons c behind cells).1 start).symm.trans oldest
    · cases ((ofCons c behind cells).2 start).symm.trans oldest

end

/-- What the cancel of the oldest live job removes, releases, sets and posts. -/
theorem cancelJob_cases {s : State} {p : JobPort} {gone rest : List PortCell} {holds : Bool}
    (oldest : s.oldestJob p = some (gone, rest, holds)) :
    let t := s.cancelJob p
    (s.arb.port p.toPort).cells = gone ++ rest
    ∧ (t.arb.port p.toPort).cells = rest
    ∧ (t.arb.port p.toPort).discarded = (s.arb.port p.toPort).discarded + gone.length
    ∧ (t.arb.port p.toPort).admitted = (s.arb.port p.toPort).admitted
    ∧ (t.arb.port p.toPort).composed = (s.arb.port p.toPort).composed
    ∧ (∀ q : PortId, q ≠ p.toPort → t.arb.port q = s.arb.port q)
    ∧ (holds = true → s.arb.hold = some p ∧ t.arb.hold = none ∧ t.arb.stall = none)
    ∧ (holds = false → t.arb.hold = s.arb.hold ∧ t.arb.stall = s.arb.stall)
    ∧ t.arb.job p = (if (∀ c ∈ rest, c.body ≠ .jobStart) ∧ (∀ c ∈ gone, c.body ≠ .jobEnd) then .discarding else s.arb.job p)
    ∧ (s.crq.length < 64 → t.crq = s.crq ++ [.notice (.jobEvent p .cancelled)] ∧ t.port = s.port)
    ∧ (64 ≤ s.crq.length → t.crq = s.crq ∧ t.port = (s.raise .noticeLost).port)
    ∧ t.comp = s.comp ∧ t.head = s.head ∧ t.arb.pause = s.arb.pause := by
  intro t
  let a := s.arb.dropJob p gone rest holds (!holdsMark .jobStart rest && !holdsMark .jobEnd gone)
  have cancelled : t = (s.setArb a).post (.jobEvent p .cancelled) := cancelJob_of_some oldest
  have arb : t.arb = a := by rw [cancelled, post_arb]; rfl
  have port : t.arb.port p.toPort = (s.arb.port p.toPort).discard gone rest := by rw [arb, dropJob_port_same]
  have job : a.job p = _ := dropJob_job s.arb p gone rest holds _
  rw [arb] at port ⊢
  rw [port]
  refine ⟨(oldestJob_split oldest).symm, rfl, rfl, rfl, rfl, fun q other => dropJob_port_other _ _ _ _ _ _ other, fun is => ?_, fun is => ?_,
    job.trans ?_, fun room => ?_, fun full => ?_, ?_, ?_, dropJob_pause _ _ _ _ _ _⟩
  · subst is
    exact ⟨hold_of_oldestJob oldest, dropJob_released _ _ _ _ _⟩
  · subst is
    exact dropJob_kept _ _ _ _ _
  · refine ite_congr ?_ (fun _ => rfl) fun _ => rfl
    simp [holdsMark_eq_false_iff]
  · have posted : t = (s.setArb a).setCrq (s.crq ++ [.notice (.jobEvent p .cancelled)]) := cancelled.trans (post_of_room (s := s.setArb a) room _)
    rw [posted]
    exact ⟨rfl, rfl⟩
  · have lost : t = (s.setArb a).raise .noticeLost := cancelled.trans (post_of_full (s := s.setArb a) full _)
    rw [lost]
    exact ⟨rfl, rfl⟩
  · rw [cancelled, post_eq]
    rfl
  · rw [cancelled, post_head]
    rfl

/-! ## The commands (R115, R122, R125) -/

theorem printSegment?_of_bad {x : List Byte} (bad : 4 ≤ (byteAt x 0).toNat ∨ 4 ≤ (byteAt x 1).toNat ∨ 64 < (x.drop 2).length) :
    printSegment? x = none := by
  rcases bad with past | past | long
  · simp [printSegment?, segment?_of_out_of_range past]
  · simp [printSegment?, style?_of_out_of_range past]
  · simp only [printSegment?, if_neg (Nat.not_le.mpr long)]
    cases segment? (byteAt x 0) <;> cases style? (byteAt x 1) <;> rfl

theorem printBody_of_room {x : List Byte} {s : State} {seg : Segment} {style : Style} {codes : List Byte}
    (fields : printSegment? x = some (seg, style, codes)) (room : s.segmentFits .p2 seg style codes = true) :
    printBody x s = (s.admitSegment .p2 seg style codes).done [] := (field_some fields _ _).trans (if_pos room)

theorem jobPort?_of_other {b : Byte} (not2 : b.toNat ≠ 2) (not3 : b.toNat ≠ 3) : jobPort? b = none := by
  have is2 : b ≠ 2 := by rintro rfl; exact not2 rfl
  have is3 : b ≠ 3 := by rintro rfl; exact not3 rfl
  rw [jobPort?, if_neg is2, if_neg is3]

theorem completes_print_cases {p : List Byte} {s : State} (two : 2 ≤ p.length) (short : p.length ≤ 72) :
    let w := s.wake .command
    let codes := p.drop 2
    (4 ≤ (byteAt p 0).toNat ∨ 4 ≤ (byteAt p 1).toNat ∨ 64 < codes.length →
      Completes (.print p) s (w.respond { result := .badField }))
    ∧ (∀ segment style, segment? (byteAt p 0) = some segment → style? (byteAt p 1) = some style → codes.length ≤ 64 →
        (96 < s.arb.p2.cells.length + (admissionCells s.arb.job2 segment style codes).length →
          admissionCells s.arb.job2 segment style codes ≠ [] → Completes (.print p) s (w.respond { result := .full }))
        ∧ (s.arb.p2.cells.length + (admissionCells s.arb.job2 segment style codes).length ≤ 96
            ∨ admissionCells s.arb.job2 segment style codes = [] →
          Completes (.print p) s ((w.admitSegment .p2 segment style codes).respond { result := .done }))) := by
  intro w codes
  refine ⟨fun bad => completes_of_portBody rfl two short (field_none (printSegment?_of_bad bad) _ _), fun segment style hseg hstyle within => ?_⟩
  have fields := printSegment?_of_fields hseg hstyle within
  have fits : w.segmentFits .p2 segment style codes = true
      ↔ (admissionCells s.arb.job2 segment style codes).length ≤ 96 - s.arb.p2.cells.length := by
    rw [wake_segmentFits]
    exact segmentFits_iff s .p2 segment style codes
  refine ⟨fun past some => ?_, fun enough => ?_⟩
  · have pos := List.length_pos_iff.mpr some
    exact completes_of_portBody rfl two short
      (printBody_of_no_room fields ((Bool.not_eq_true _).mp (mt fits.mp (by omega))))
  · refine completes_of_portBody rfl two short (printBody_of_room fields (fits.mpr ?_))
    rcases enough with enough | empty
    · omega
    · simp [empty]

/-- Settles O45: the commands by their bodies; a cancel is one change of the Arbiter and one notice. -/
theorem printCommandsAct : Obligations.PrintCommandsAct := by
  refine ⟨⟨rfl, fun _ => segment?_of_out_of_range⟩, ⟨rfl, fun _ => style?_of_out_of_range⟩,
    fun p s two short => completes_print_cases two short, fun p s short => ?cancel, rfl, jobSpan_cases, fun s p => ?oldest,
    fun s p => ⟨cancelJob_of_none, fun gone rest holds => cancelJob_cases⟩⟩
  case cancel =>
    have cancels {x : JobPort} (one : 1 ≤ p.length) (port : jobPort? (byteAt p 0) = some x) :
        Completes (.cancelJob p) s (((s.wake .command).cancelJob x).respond { result := .done }) :=
      completes_of_portBody rfl one short (field_some port _ _)
    exact ⟨fun one not2 not3 => completes_of_portBody rfl one short (field_none (jobPort?_of_other not2 not3) _ _),
      fun one is => cancels one (by rw [is]; rfl), fun one is => cancels one (by rw [is]; rfl),
      completes_of_portBody (c := .pausePrint p) rfl (Nat.zero_le _) short rfl,
      completes_of_portBody (c := .resumePrint p) rfl (Nat.zero_le _) short rfl⟩
  case oldest =>
    have closes := closing_iff s p
    refine ⟨fun holds live => oldestJob_of_holder holds ((Bool.not_eq_true _).mp (mt closes.mp live)), fun other => oldestJob_of_other ?_⟩
    exact other.imp_right closes.mpr

/-! ## The stall timer (R121, R154) -/

theorem stallRuns_iff (s : State) : s.stallRuns = true ↔ ∃ p : JobPort, s.arb.hold = some p ∧ s.comp.line = none ∧ s.arb.pause = false
    ∧ s.mon.anyHold = false ∧ s.eligible p.toPort = false ∧ s.head.state ≠ .hold ∧ s.head.state ≠ .settle := by
  unfold State.stallRuns
  cases s.arb.hold with
  | none => simp
  | some p =>
    simp only [HeadState.stopped, Bool.and_eq_true, Bool.not_eq_true', Bool.or_eq_false_iff, beq_eq_false_iff_ne, Option.isNone_iff_eq_none,
      Option.some.injEq, exists_eq_left', and_assoc]
    exact ⟨fun ⟨line, pause, hold, notHold, notSettle, waits⟩ => ⟨line, pause, hold, waits, notHold, notSettle⟩,
      fun ⟨line, pause, hold, waits, notHold, notSettle⟩ => ⟨line, pause, hold, notHold, notSettle, waits⟩⟩

section
variable {s : State}

theorem watchStall_of_start (runs : s.stallRuns = true) (none : s.arb.stall = none) :
    s.watchStall = s.setArb { s.arb with stall := some s.now } := by
  rw [State.watchStall, if_pos runs]
  exact if_neg (by simp [none])

theorem watchStall_of_running (runs : s.stallRuns = true) (some : s.arb.stall ≠ none) : s.watchStall = s := by
  rw [State.watchStall, if_pos runs]
  exact if_pos (Option.isSome_iff_ne_none.mpr some)

theorem watchStall_of_stopped (stops : s.stallRuns = false) : s.watchStall = s.setArb { s.arb with stall := none } := by
  rw [State.watchStall, stops, if_neg Bool.false_ne_true]
  cases timer : s.arb.stall with
  | none =>
    rw [← timer]
    exact if_neg (by simp [timer])
  | some start => exact if_pos rfl

end

/-! ## The Arbiter's timers (R117, R121) -/

theorem eligible_of_aged {s : State} {q : PortId} (aged : agedHead s.now s.arb.settings.partialMs (s.arb.port q).cells = true) :
    s.eligible q = true := by
  rw [State.eligible, State.textLine]
  by_cases incomplete : completeLine s.comp.settings.crMode (s.arb.port q).cells = none
  · rw [grantLine_of_partial incomplete, if_pos aged]
    rfl
  · rw [grantLine_of_complete incomplete]
    exact Option.isSome_iff_ne_none.mpr incomplete

theorem completes_partialLineExpiry {q : PortId} {s : State} {c : PortCell} {rest : List PortCell}
    (cells : (s.arb.port q).cells = c :: rest) :
    let u := s.reach (c.entered + 3000 * s.arb.settings.partialMs)
    Completes (.partialLineExpiry q) s u ∧ u.eligible q = true := by
  intro u
  refine ⟨completes_of_expiry (c := .partialLineExpiry q) (f := id) rfl ?_, eligible_of_aged ?_⟩
  · rw [State.partialDue, cells, Nat.mul_comm 3000]
    rfl
  · exact (agedHead_iff _ _ _).mpr ⟨c, rest, cells, Nat.le_max_right _ _⟩

theorem stallHolder_of_hold {s : State} {p : JobPort} (holds : s.arb.hold = some p) : s.stallHolder = s.stallJob p := by
  rw [State.stallHolder, holds]

theorem completes_jobStallExpiry {s : State} {p : JobPort} {start : Nat} (holds : s.arb.hold = some p) (runs : s.arb.stall = some start) :
    Completes .jobStallExpiry s ((s.reach (start + 3000000 * s.arb.settings.stallS)).stallJob p) := by
  have due : s.stallEnd = some (start + 3000000 * s.arb.settings.stallS) := by
    have length : s.arb.settings.stallS * 1000 * Config.unitsPerMs = 3000000 * s.arb.settings.stallS := by
      rw [Nat.mul_assoc, Nat.mul_comm]
      rfl
    rw [State.stallEnd, holds, runs, length]
    rfl
  have stalls := stallHolder_of_hold (s := s.reach (start + 3000000 * s.arb.settings.stallS)) holds
  exact stalls ▸ completes_of_expiry (c := .jobStallExpiry) (f := State.stallHolder) rfl due

/-- What a stall removes, releases, sets, posts and raises. -/
theorem stallJob_cases (s : State) (p : JobPort) :
    let t := s.stallJob p
    t.arb.hold = none ∧ t.arb.stall = none ∧ t.arb.job p = .discarding
    ∧ (t.arb.port p.toPort).cells = (jobSpan (s.arb.port p.toPort).cells).2
    ∧ (t.arb.port p.toPort).discarded
        = (s.arb.port p.toPort).discarded + (jobSpan (s.arb.port p.toPort).cells).1.length
    ∧ (∀ q : PortId, q ≠ p.toPort → t.arb.port q = s.arb.port q)
    ∧ (s.crq.length < 64 → t.crq = s.crq ++ [.notice (.jobEvent p .stalled)]
        ∧ namesCause t.port.causes .noticeLost = namesCause s.port.causes .noticeLost)
    ∧ (64 ≤ s.crq.length → t.crq = s.crq ∧ namesCause t.port.causes .noticeLost = true)
    ∧ (∀ c : Cause, c ≠ .noticeLost → c ≠ .jobError → namesCause t.port.causes c = namesCause s.port.causes c)
    ∧ namesCause t.port.causes .jobError = true ∧ t.comp = s.comp ∧ t.head = s.head := by
  intro t
  let a := s.arb.dropJob p (jobSpan (s.arb.port p.toPort).cells).1 (jobSpan (s.arb.port p.toPort).cells).2 true true
  have arb : t.arb = a := stallJob_arb s p
  have port := dropJob_port_same s.arb p (jobSpan (s.arb.port p.toPort).cells).1 (jobSpan (s.arb.port p.toPort).cells).2 true true
  have stalled : t = ((s.setArb a).post (.jobEvent p .stalled)).raise .jobError := stallJob_eq s p
  obtain ⟨hold, stall⟩ := dropJob_released s.arb p (jobSpan (s.arb.port p.toPort).cells).1 (jobSpan (s.arb.port p.toPort).cells).2 true
  rw [arb, port]
  refine ⟨hold, stall, dropJob_job _ _ _ _ _ _, rfl, rfl, fun q other => dropJob_port_other _ _ _ _ _ _ other, fun room => ?_, fun full => ?_,
    fun c notLost notError => ?_, ?_, ?_, ?_⟩
  · have posted : t = ((s.setArb a).setCrq (s.crq ++ [.notice (.jobEvent p .stalled)])).raise .jobError :=
      stalled.trans (congrArg (State.raise · .jobError) (post_of_room (s := s.setArb a) room _))
    rw [posted]
    exact ⟨rfl, namesCause_raise_of_ne (by decide) _⟩
  · have lost : t = ((s.setArb a).raise .noticeLost).raise .jobError :=
      stalled.trans (congrArg (State.raise · .jobError) (post_of_full (s := s.setArb a) full _))
    rw [lost]
    exact ⟨rfl, namesCause_raise_of_named (namesCause_raise_same _ _) _⟩
  · rw [stalled, namesCause_raise_of_ne notError, namesCause_post_of_ne notLost]
    rfl
  · rw [stalled]
    exact namesCause_raise_same _ _
  · rw [stalled, raise_eq, post_eq]
    rfl
  · rw [stalled, raise_head, post_head]
    rfl

/-- Settles O47: a stall is one change of the Arbiter, one notice and one cause. -/
theorem arbiterTimersExpire : Obligations.ArbiterTimersExpire :=
  ⟨fun _ _ _ _ => completes_partialLineExpiry, fun _ _ _ => completes_jobStallExpiry,
    fun s => ⟨stallRuns_iff s, watchStall_of_start, watchStall_of_running, watchStall_of_stopped⟩, rfl, jobSpan_cases, stallJob_cases⟩

end Sys2Proof.Machine
end

section
/-!
SUPPORT. The Monitor's inputs: the sensors, the supply sample and the thermistor reading in any state, their moments, and what they do to the holds, the causes and the Head Drive (R153, R154, R158 to R163).
-/

namespace Sys2Proof.Machine

/-! ## A comparison of the holds in any state -/

section
variable {s : State}

theorem moveHead_mon_of_working (working : s.head.state ≠ .idle) (x : HeadState) : (s.moveHead x).mon = s.mon := by
  have notIdle : (s.head.state == .idle) = false := beq_eq_false_iff_ne.mpr working
  simp [State.moveHead, notIdle]

/-- What a comparison makes owed: only where the Head Drive leaves IDLE. -/
theorem syncHolds_mon_eq (s : State) :
    let leaves := s.head.state == .idle && s.mon.anyHold
    s.syncHolds.mon = { s.mon with
      supplyOwed := s.mon.supplyOwed || (leaves && s.mon.lastSupply != s.now)
      thermOwed := s.mon.thermOwed || (leaves && s.mon.power == .doze && s.mon.lastTherm != s.now) } := by
  intro leaves
  have still (none : leaves = false) : s.mon = { s.mon with
      supplyOwed := s.mon.supplyOwed || (leaves && s.mon.lastSupply != s.now)
      thermOwed := s.mon.thermOwed || (leaves && s.mon.power == .doze && s.mon.lastTherm != s.now) } := by
    simp [none]
  cases held : s.mon.anyHold with
  | false =>
    have none : leaves = false := by simp [leaves, held]
    cases state : s.head.state with
    | hold =>
      have moved : s.syncHolds = (s.setHead { s.head with settle := some s.now }).moveHead .settle := by
        simp only [State.syncHolds, held, state, Bool.false_eq_true, if_false]
      rw [moved, moveHead_mon_of_working (by rw [setHead_head, state]; decide), setHead_mon]
      exact still none
    | idle | settle | firing | advancing =>
      have same : s.syncHolds = s := by simp only [State.syncHolds, held, state, Bool.false_eq_true, if_false]
      exact (congrArg State.mon same).trans (still none)
  | true =>
    cases state : s.head.state with
    | idle =>
      have moves : (HeadState.hold != .idle) = true := rfl
      simp [State.syncHolds, held, state, State.moveHead, leaves, moves]
    | settle =>
      have moved : s.syncHolds = (s.setHead { s.head with settle := none }).moveHead .hold := by
        simp only [State.syncHolds, held, state, if_true]
      rw [moved, moveHead_mon_of_working (by rw [setHead_head, state]; decide), setHead_mon]
      exact still (by simp [leaves, state])
    | hold | firing | advancing =>
      have same : s.syncHolds = s := by simp only [State.syncHolds, held, state, if_true]
      exact (congrArg State.mon same).trans (still (by simp [leaves, state]))

theorem syncHolds_mon_of_working (working : s.head.state ≠ .idle) : s.syncHolds.mon = s.mon := by
  have notIdle : (s.head.state == .idle) = false := beq_eq_false_iff_ne.mpr working
  rw [syncHolds_mon_eq]
  simp [notIdle]

theorem syncHolds_of_free (idle : s.head.state = .idle) (free : s.mon.anyHold = false) : s.syncHolds = s := by
  simp only [State.syncHolds, free, idle, Bool.false_eq_true, if_false]

theorem syncHolds_anyHold (s : State) : s.syncHolds.mon.anyHold = s.mon.anyHold := by
  rw [syncHolds_mon_eq]
  rfl

/-- A comparison of the holds is a change of the Head Drive and of the Monitor. -/
theorem syncHolds_frame (s : State) : s.syncHolds = (s.setHead s.syncHolds.head).setMon s.syncHolds.mon := by
  unfold State.syncHolds
  cases s.mon.anyHold <;> cases s.head.state <;> rfl

end

theorem followHolds_state_held {h : Head} (resting : h.state = .idle ∨ h.state = .settle) (now : Nat) :
    (h.followHolds true now).state = .hold := by
  rcases resting with state | state <;> simp [Head.followHolds, state]

theorem followHolds_state_free {h : Head} (hold : h.state = .hold) (now : Nat) :
    (h.followHolds false now).state = .settle ∧ (h.followHolds false now).settle = some now := by
  simp [Head.followHolds, hold]

/-- `HeadFollows` is about the Head Drive, the holds and the moment alone. -/
theorem State.HeadFollows.of_same {t u : State} {h : Head} (k : t.HeadFollows h) (head : u.head = t.head)
    (holds : u.mon.anyHold = t.mon.anyHold) (now : u.now = t.now) : u.HeadFollows h := by
  obtain ⟨fromIdle, fromSettle, stays, clears, free, runsOn⟩ := k
  rw [← head, ← holds] at *
  exact ⟨fromIdle, fromSettle, stays, by rw [now]; exact clears, free, runsOn⟩

/-! ## Moments (R159, R161) -/

section
variable (s : State) (x : HeadState)

theorem moveHead_supplyOwed : (s.moveHead x).mon.supplyOwed
    = (s.mon.supplyOwed || (s.head.state == .idle && x != .idle && s.mon.lastSupply != s.now)) := rfl

theorem moveHead_thermOwed : (s.moveHead x).mon.thermOwed
    = (s.mon.thermOwed || (s.head.state == .idle && x != .idle && s.mon.power == .doze && s.mon.lastTherm != s.now)) := rfl

variable {s}

theorem supplyDue_of_working (paid : s.mon.supplyOwed = false) (working : s.head.state ≠ .idle) :
    s.supplyDue = s.mon.lastSupply + 6000 := by
  have interval : s.supplyInterval = 6000 := by
    unfold State.supplyInterval
    split
    case h_1 idle _ => exact absurd idle working
    case h_2 idle _ => exact absurd idle working
    case h_3 => rfl
  rw [State.supplyDue, if_neg (by simp [paid]), interval]

theorem supplyDue_of_idle_run (paid : s.mon.supplyOwed = false) (idle : s.head.state = .idle) (run : s.mon.power = .run) :
    s.supplyDue = s.mon.lastSupply + 300000 := by
  rw [State.supplyDue, if_neg (by simp [paid]), State.supplyInterval, idle, run]
  rfl

theorem supplyDue_of_idle_doze (paid : s.mon.supplyOwed = false) (idle : s.head.state = .idle) (doze : s.mon.power = .doze) :
    s.supplyDue = s.mon.lastSupply + 3000000 := by
  rw [State.supplyDue, if_neg (by simp [paid]), State.supplyInterval, idle, doze]
  rfl

end

/-! ## Sensors (R158) -/

theorem setSensed_sensed (m : Monitor) (i : Sensor) : m.setSensed i (m.sensed i) = m := by cases i <;> rfl

theorem sensed_setSensed (m : Monitor) (i : Sensor) (x : Sensed) : (m.setSensed i x).sensed i = x := by cases i <;> rfl

theorem sensed_of_owed (m : Monitor) (i : Sensor) (a b : Bool) :
    ({ m with supplyOwed := a, thermOwed := b } : Monitor).sensed i = m.sensed i := by cases i <;> rfl

theorem paperHold_iff (m : Monitor) : m.paperHold = true ↔ m.paper.value = false ∨ m.lid.value = false := by
  simp [Monitor.paperHold]

theorem inputChange_eq (s : State) (i : Sensor) (level : Bool) : s.inputChange i level = (s.setPins (s.pins.setLevel i level)).setMon
    (s.mon.setSensed i { value := (s.mon.sensed i).value
                         stable := if level = (s.mon.sensed i).value then none
                           else if (s.mon.sensed i).stable.isSome then (s.mon.sensed i).stable else some s.now }) := rfl

theorem completes_sensorInputChange {i : Sensor} {level : Bool} {s t : State} (changes : s.inputChange i level = t) :
    Completes (.sensorInputChange i level) s t :=
  changes ▸ completes_of_event (c := .sensorInputChange i level) (f := fun s => s.inputChange i level) rfl rfl

section
variable (s : State) (i : Sensor)

/-- The Monitor once the sensed state has taken the level. -/
def State.sensedNow : Monitor := s.mon.setSensed i { value := s.pins.level i, stable := none }

theorem inputStable_eq : s.inputStable i
    = ((s.setMon (s.sensedNow i)).setPort (s.port.raisedIf (!s.mon.paperHold && (s.sensedNow i).paperHold) .paperHold)).syncHolds := by
  rw [State.inputStable, raiseIf_eq]
  rfl

end

/-- Settles O54: the sensed level is written, then the holds are compared once. -/
theorem sensorInputsAreSensed : Obligations.SensorInputsAreSensed := by
  refine ⟨fun s i level => ?change, fun s i start runs => ?expiry, fun s i => ?mon, fun s i => ?stable⟩
  case change =>
    intro a
    have changes := inputChange_eq s i level
    refine ⟨fun same => ?_, fun differs stopped => ?_, fun differs runs => ?_⟩
    · rw [if_pos same] at changes
      exact completes_sensorInputChange changes
    · rw [if_neg differs, if_neg (by simp [stopped])] at changes
      exact completes_sensorInputChange changes
    · rw [if_neg differs, if_pos (Option.isSome_iff_ne_none.mpr runs)] at changes
      refine completes_sensorInputChange (changes.trans ?_)
      exact congrArg a.setMon (setSensed_sensed s.mon i)
  case expiry =>
    refine completes_of_expiry (c := .sensorStableExpiry i) (f := fun s => s.inputStable i) rfl ?_
    rw [State.stableDue, runs]
    rfl
  all_goals
    intro t
    let u := (s.setMon (s.sensedNow i)).setPort (s.port.raisedIf (!s.mon.paperHold && (s.sensedNow i).paperHold) .paperHold)
    have uHead : u.head = s.head := rfl
    have uMon : u.mon = s.sensedNow i := rfl
    have stable : t = u.syncHolds := inputStable_eq s i
  case mon =>
    by_cases idle : s.head.state = .idle
    · cases held : u.mon.anyHold with
      | true =>
        right
        refine ⟨idle, ?_⟩
        rw [stable, syncHolds_head_eq, held, uHead]
        exact followHolds_state_held (.inl idle) _
      | false =>
        left
        rw [stable, syncHolds_of_free (uHead ▸ idle) held]
        exact uMon
    · left
      rw [stable, syncHolds_mon_of_working (uHead ▸ idle)]
      exact uMon
  case stable =>
    have mon : t.mon = _ := (congrArg State.mon stable).trans (syncHolds_mon_eq u)
    have head : t.head = s.head.followHolds t.mon.anyHold s.now := by
      rw [stable, syncHolds_head_eq, syncHolds_anyHold]
      rfl
    have paper : t.mon.paperHold = (s.sensedNow i).paperHold := by rw [mon]; rfl
    have port : t.port = s.port.raisedIf (!s.mon.paperHold && t.mon.paperHold) .paperHold := by
      rw [paper, stable, syncHolds_port]
      rfl
    have follows : t.HeadFollows s.head := stable ▸ syncHolds_headFollows u
    refine ⟨?_, paperHold_iff _, fun free held => ?_, fun stays => ?_, fun held resting => ?_, fun free hold => ?_, fun row => ?_, follows, ?_⟩
    · rw [mon, sensed_of_owed, uMon]
      exact sensed_setSensed _ _ _
    · rw [port, namesCause_raisedIf, free, held]
      simp
    · have none : (!s.mon.paperHold && t.mon.paperHold) = false := by
        rcases stays with same | free
        · simp [same]
        · simp [free]
      rw [port, none, raisedIf_false]
    · rw [head, held]
      exact followHolds_state_held resting _
    · rw [head, free]
      exact followHolds_state_free hold _
    · rw [head, followHolds_of_row row]
    · rw [head, followHolds_keeps_limit]

/-! ## The supply sample (R159, R160) -/

theorem sampleSupply_eq (s : State) :
    let m := s.mon.sampled s.pins.supply.toNat s.now
    s.sampleSupply = (((s.setMon m).setPort (s.port.raisedIf (!s.mon.supplyHold && m.supplyHold) .supplyHold)).syncHolds).recomputeLimit := by
  intro m
  have compared : s.sampleSupply
      = (((s.setMon m).raiseIf (!s.mon.supplyHold && m.supplyHold) .supplyHold).syncHolds).recomputeLimit := rfl
  rw [compared, raiseIf_eq]
  rfl

/-- A comparison at the moment of a sample makes no sample owed. -/
theorem syncHolds_mon_of_sampled {s : State} (sampled : s.mon.lastSupply = s.now) :
    ∃ thermOwed, s.syncHolds.mon = { s.mon with thermOwed := thermOwed } := by
  have none (leaves : Bool) : (s.mon.supplyOwed || (leaves && s.mon.lastSupply != s.now)) = s.mon.supplyOwed := by simp [sampled]
  rw [syncHolds_mon_eq, none]
  exact ⟨_, rfl⟩

theorem sampleSupply_mon (s : State) : ∃ thermOwed,
    s.sampleSupply.mon = { s.mon.sampled s.pins.supply.toNat s.now with thermOwed := thermOwed } := by
  rw [sampleSupply_eq, recomputeLimit_mon]
  exact syncHolds_mon_of_sampled (s := (s.setMon (s.mon.sampled s.pins.supply.toNat s.now)).setPort _) rfl

theorem sampleSupply_port (s : State) : s.sampleSupply.port
    = s.port.raisedIf (!s.mon.supplyHold && (s.mon.sampled s.pins.supply.toNat s.now).supplyHold) .supplyHold := by
  rw [sampleSupply_eq, recomputeLimit_eq, setHead_port, syncHolds_port, setPort_port]

theorem sampleSupply_headFollows (s : State) : s.sampleSupply.HeadFollows s.head := by
  rw [sampleSupply_eq]
  exact (syncHolds_headFollows _).recomputeLimit

/-- A raised hold's cause is there, and the causes stay where the hold does. -/
theorem raisedIf_cases {x : CtlPort} {before now : Bool} (c : Cause) :
    (before = false → now = true → namesCause (x.raisedIf (!before && now) c).causes c = true)
    ∧ (before = now → x.raisedIf (!before && now) c = x) := by
  refine ⟨fun free held => ?_, fun same => ?_⟩
  · rw [namesCause_raisedIf, free, held]
    simp
  · rw [same, Bool.not_and_self, raisedIf_false]

/-- Settles O55: a sample is written, then the holds are compared once, at its own moment. -/
theorem supplyHoldFollowsV : Obligations.SupplyHoldFollowsV := by
  refine ⟨fun v s => ?_, fun s => ⟨fun owed => if_pos owed, fun paid => ⟨supplyDue_of_working paid, supplyDue_of_idle_run paid,
    supplyDue_of_idle_doze paid⟩⟩, fun s x => ?owed, fun s => ?sample⟩
  · exact completes_of_expiry (c := .supplySample v) (f := fun s => (s.setPins { s.pins with supply := v }).sampleSupply) rfl rfl
  case owed =>
    rw [moveHead_supplyOwed]
    refine ⟨fun idle leaves late => ?_, fun stays => ?_⟩
    · simp [idle, leaves, late]
    · rcases stays with working | idle | sampled
      · simp [working]
      · simp [idle]
      · simp [sampled]
  case sample =>
    intro t
    obtain ⟨thermOwed, mon⟩ := sampleSupply_mon s
    have mon : t.mon = _ := mon
    have hold : t.mon.supplyHold = (s.mon.sampled s.pins.supply.toNat s.now).supplyHold := by rw [mon]
    have port : t.port = s.port.raisedIf (!s.mon.supplyHold && t.mon.supplyHold) .supplyHold := by
      rw [hold]
      exact sampleSupply_port s
    obtain ⟨raises, stays⟩ := raisedIf_cases (x := s.port) (before := s.mon.supplyHold) (now := t.mon.supplyHold) .supplyHold
    rw [← port] at raises stays
    have compared : t.mon.supplyHold = supplyHoldAfter s.mon.supplyHold t.mon.supply := by rw [mon]; rfl
    refine ⟨by rw [mon]; rfl, by rw [mon]; rfl, by rw [mon]; rfl, by rw [mon]; rfl, fun free => ?_, fun held => ?_, raises, stays,
      by rw [mon]; rfl, by rw [mon]; rfl, by rw [mon]; rfl, by rw [mon]; rfl, sampleSupply_headFollows s⟩
    · rw [compared, supplyHoldAfter, free]
      simp
    · rw [compared, supplyHoldAfter, held]
      simp

/-! ## The thermistor reading (R161, R162) -/

/-- The Monitor after a comparison of T with the OT Limit, before the Head Drive follows. -/
def Monitor.comparedThermal (m : Monitor) : Monitor := { m with thermalHold := thermalHoldAfter m.thermalHold m.temp m.otLimit }

theorem compareThermal_eq (s : State) :
    let m := s.mon.comparedThermal
    s.compareThermal = ((s.setMon m).setPort (s.port.raisedIf (!s.mon.thermalHold && m.thermalHold) .thermalHold)).syncHolds := by
  intro m
  have compared : s.compareThermal = ((s.setMon m).raiseIf (!s.mon.thermalHold && m.thermalHold) .thermalHold).syncHolds := rfl
  rw [compared, raiseIf_eq]
  rfl

theorem compareThermal_port (s : State) :
    s.compareThermal.port = s.port.raisedIf (!s.mon.thermalHold && s.mon.comparedThermal.thermalHold) .thermalHold := by
  rw [compareThermal_eq, syncHolds_port, setPort_port]

theorem compareThermal_headFollows (s : State) : s.compareThermal.HeadFollows s.head := by
  rw [compareThermal_eq]
  exact syncHolds_headFollows _

theorem compareThermal_mon (s : State) : ∃ supplyOwed thermOwed,
    s.compareThermal.mon = { s.mon.comparedThermal with supplyOwed := supplyOwed, thermOwed := thermOwed } := by
  rw [compareThermal_eq]
  exact syncHolds_mon _

/-- A comparison at the moment of a reading makes no reading owed. -/
theorem compareThermal_mon_of_read {s : State} (read : s.mon.lastTherm = s.now) : ∃ supplyOwed,
    s.compareThermal.mon = { s.mon.comparedThermal with supplyOwed := supplyOwed } := by
  have none (leaves : Bool) : (s.mon.thermOwed || (leaves && s.mon.lastTherm != s.now)) = s.mon.thermOwed := by simp [read]
  rw [compareThermal_eq, syncHolds_mon_eq]
  simp only [setPort_mon, setMon_mon, setPort_now, setMon_now, Monitor.comparedThermal, none]
  exact ⟨_, rfl⟩

theorem thermalHoldAfter_iff (hold : Bool) (t : Int) (limit : Nat) :
    (hold = false → (thermalHoldAfter hold t limit = true ↔ (limit : Int) < t))
    ∧ (hold = true → (thermalHoldAfter hold t limit = false ↔ t ≤ (limit : Int) - 8)) := by
  refine ⟨fun free => ?_, fun held => ?_⟩
  · rw [free, thermalHoldAfter]
    simp
  · rw [held, thermalHoldAfter]
    simp

section
variable {s : State}

/-- The state a valid reading compares. -/
def State.reading (s : State) : State :=
  s.setMon { s.mon with lastTherm := s.now, thermOwed := false, temp := s.pins.therm, fallback := false }

theorem readThermistor_of_valid (valid : validReading s.pins.therm = true) : s.readThermistor
    = if s.mon.fallback then s.reading.compareThermal.recomputeLimit else s.reading.compareThermal := if_pos valid

theorem readThermistor_of_invalid (invalid : validReading s.pins.therm = false) : s.readThermistor
    = if s.mon.fallback then s.setMon { s.mon with lastTherm := s.now, thermOwed := false }
      else ((s.setMon { s.mon with lastTherm := s.now, thermOwed := false, fallback := true }).raise .sensorFallback).recomputeLimit :=
  if_neg (Bool.eq_false_iff.mp invalid)

end

theorem validReading_eq_false_iff (r : Int) : validReading r = false ↔ r < -30 ∨ 100 < r := by
  rw [← Bool.not_eq_true, validReading_iff]
  omega

/-- A valid reading, up to L: the comparison of T with the OT Limit. -/
theorem readThermistor_valid_parts (s : State) (valid : validReading s.pins.therm = true) :
    s.readThermistor.mon = s.reading.compareThermal.mon ∧ s.readThermistor.port = s.reading.compareThermal.port
    ∧ s.readThermistor.HeadFollows s.head := by
  have follows : s.reading.compareThermal.HeadFollows s.head := compareThermal_headFollows s.reading
  rw [readThermistor_of_valid valid]
  split
  · exact ⟨rfl, rfl, follows.recomputeLimit⟩
  · exact ⟨rfl, rfl, follows⟩

/-- An invalid reading, up to L and the cause. -/
theorem readThermistor_invalid_parts (s : State) (invalid : validReading s.pins.therm = false) :
    s.readThermistor.mon = { s.mon with lastTherm := s.now, thermOwed := false, fallback := true }
    ∧ s.readThermistor.head = { s.head with limit := s.readThermistor.head.limit }
    ∧ (s.mon.fallback = false → namesCause s.readThermistor.port.causes .sensorFallback = true)
    ∧ (s.mon.fallback = true → s.readThermistor.port = s.port ∧ s.readThermistor.head = s.head) := by
  rw [readThermistor_of_invalid invalid]
  cases fallback : s.mon.fallback with
  | true => exact ⟨congrArg (fun f => { s.mon with lastTherm := s.now, thermOwed := false, fallback := f }) fallback, rfl, nofun, fun _ => ⟨rfl, rfl⟩⟩
  | false => exact ⟨rfl, rfl, fun _ => namesCause_raise_same _ _, nofun⟩

/-- Settles O56: by whether the reading is valid; a valid one is compared with the OT Limit. -/
theorem thermistorIsRead : Obligations.ThermistorIsRead := by
  refine ⟨fun r s => ⟨fun runs => ?runs, fun doze idle => ?rests⟩, fun s => ⟨fun owed => if_pos owed, fun paid => ?due⟩, fun s x => ?owed,
    fun s => ?reading⟩
  case runs =>
    have taken : s.thermRuns = true := by
      rcases runs with run | working
      · simp [State.thermRuns, run]
      · simp [State.thermRuns, working]
    exact completes_of_expiry (c := .thermistorReading r) (f := fun s => (s.setPins { s.pins with therm := r }).readThermistor) rfl
      (by rw [taken]; rfl)
  case rests =>
    have notTaken : s.thermRuns = false := by simp [State.thermRuns, doze, idle]
    have noExpiry : whenever s.thermRuns (some s.thermDue) = none := by rw [notTaken]; rfl
    have still (f : State → State) : s.expiry (whenever s.thermRuns (some s.thermDue)) f = s := by rw [noExpiry]; rfl
    exact congrArg _ (still _)
  case due => exact if_neg (by simp [paid])
  case owed =>
    rw [moveHead_thermOwed]
    refine ⟨fun idle leaves doze late => ?_, fun stays => ?_⟩
    · simp [idle, leaves, doze, late]
    · rcases stays with working | idle | run | read
      · simp [working]
      · simp [idle]
      · simp [run]
      · simp [read]
  case reading =>
    intro t
    cases valid : validReading s.pins.therm with
    | true =>
      obtain ⟨mon, port, follows⟩ := readThermistor_valid_parts s valid
      obtain ⟨supplyOwed, compared⟩ := compareThermal_mon_of_read (s := s.reading) rfl
      have mon : t.mon = _ := mon.trans compared
      have outside : ¬ (s.pins.therm < -30 ∨ 100 < s.pins.therm) := by
        rw [← validReading_eq_false_iff, valid]
        exact Bool.noConfusion
      have hold : t.mon.thermalHold = thermalHoldAfter s.mon.thermalHold s.pins.therm s.mon.otLimit := by rw [mon]; rfl
      have port : t.port = s.port.raisedIf (!s.mon.thermalHold && t.mon.thermalHold) .thermalHold := by
        rw [hold]
        exact port.trans (compareThermal_port s.reading)
      obtain ⟨raises, -⟩ := raisedIf_cases (x := s.port) (before := s.mon.thermalHold) (now := t.mon.thermalHold) .thermalHold
      rw [← port] at raises
      obtain ⟨rises, falls⟩ := thermalHoldAfter_iff s.mon.thermalHold s.pins.therm s.mon.otLimit
      rw [← hold] at rises falls
      exact ⟨by rw [mon]; rfl, by rw [mon]; rfl, fun _ _ => ⟨by rw [mon]; rfl, by rw [mon]; rfl, rises, falls, raises, follows⟩,
        fun out => absurd out outside⟩
    | false =>
      obtain ⟨mon, head, falls, stays⟩ := readThermistor_invalid_parts s valid
      have mon : t.mon = _ := mon
      have outside := (validReading_eq_false_iff _).mp valid
      exact ⟨by rw [mon], by rw [mon], fun low high => by omega, fun _ => ⟨by rw [mon], by rw [mon], by rw [mon], head, falls, stays⟩⟩

end Sys2Proof.Machine
end

section
/-!
SUPPORT. CONFIG PRINT: its fields, and the comparisons its settings meet at once (R128, R149, R162).
-/

namespace Sys2Proof.Machine

open Sys2Proof.Laws

/-! ## The fields -/

theorem crMode?_of_past {b : Byte} (past : 2 ≤ b.toNat) : crMode? b = none := by
  rw [crMode?, if_neg (ne_of_past past (by decide)), if_neg (ne_of_past past (by decide))]

theorem printSettings?_of_past {p : List Byte} (past : 4 ≤ (byteAt p 7).toNat ∨ 2 ≤ (byteAt p 14).toNat) : printSettings? p = none := by
  rcases past with past | past
  · simp [printSettings?, fin?_of_past past]
  · simp [printSettings?, crMode?_of_past past]

theorem printSettings?_of_fields {p : List Byte} {speed : Fin 4} {cr : CrMode} (hspeed : fin? 4 (byteAt p 7) = some speed)
    (hcr : crMode? (byteAt p 14) = some cr) : printSettings? p = some
      { arbiter := { prio0 := min 3 (byteAt p 0).toNat, prio1 := min 3 (byteAt p 1).toNat, prio2 := min 3 (byteAt p 2).toNat
                     prio3 := min 3 (byteAt p 3).toNat, partialMs := max 100 (min 3000 (wordAt p 4 / 100 * 100))
                     stallS := max 1 (min 30 (byteAt p 6).toNat) }
        composer := { crMode := cr, lineGap := min 12 (byteAt p 11).toNat, tear := min 255 (wordAt p 12) }
        speed := speed
        dotLimit := max 16 (min 384 (wordAt p 8 / 16 * 16))
        otLimit := max 50 (min 80 ((byteAt p 10).toNat / 5 * 5)) } := by
  simp [printSettings?, hspeed, hcr, clamp, quantize]

/-! ## What each comparison leaves -/

section
variable (s : State)

theorem watchStall_frame : s.watchStall = s.setArb s.watchStall.arb := by
  unfold State.watchStall
  split <;> split <;> rfl

theorem stallJob_frame (p : JobPort) :
    s.stallJob p = ((s.setArb (s.stallJob p).arb).setCrq (s.stallJob p).crq).setPort (s.stallJob p).port := by
  rw [stallJob_eq, raise_eq, post_eq]
  rfl

theorem compareStall_frame : s.compareStall = ((s.setArb s.compareStall.arb).setCrq s.compareStall.crq).setPort s.compareStall.port := by
  unfold State.compareStall
  split
  · split
    · exact stallJob_frame s _
    · rfl
  · rfl

theorem compareThermal_frame : s.compareThermal
    = ((s.setMon s.compareThermal.mon).setPort s.compareThermal.port).setHead s.compareThermal.head := by
  rw [compareThermal_eq, syncHolds_frame]
  rfl

/-- The units that no comparison of CONFIG PRINT touches. -/
structure Untouched where
  line : Line
  engine : Engine
  tx : Transmitter
  keys : Keyboard
  store : Store
  rtq : List TextCell
  comp : Composer

def State.rest : Untouched :=
  { line := s.line, engine := s.engine, tx := s.tx, keys := s.keys, store := s.store, rtq := s.rtq, comp := s.comp }

theorem rest_setArb (a : Arbiter) : (s.setArb a).rest = s.rest := rfl

theorem rest_setArb_setCrq_setPort (a : Arbiter) (c : List CrqEntry) (p : CtlPort) :
    (((s.setArb a).setCrq c).setPort p).rest = s.rest := rfl

theorem setMon_setPort_setHead_keeps (m : Monitor) (p : CtlPort) (h : Head) : (((s.setMon m).setPort p).setHead h).rest = s.rest
    ∧ (((s.setMon m).setPort p).setHead h).arb = s.arb ∧ (((s.setMon m).setPort p).setHead h).crq = s.crq := ⟨rfl, rfl, rfl⟩

theorem watchStall_rest : s.watchStall.rest = s.rest := by rw [watchStall_frame, rest_setArb]

theorem compareStall_rest : s.compareStall.rest = s.rest := by rw [compareStall_frame, rest_setArb_setCrq_setPort]

theorem recomputeLimit_rest : s.recomputeLimit.rest = s.rest := rfl

theorem compareThermal_keeps : s.compareThermal.rest = s.rest ∧ s.compareThermal.arb = s.arb ∧ s.compareThermal.crq = s.crq := by
  rw [compareThermal_frame]
  exact setMon_setPort_setHead_keeps s _ _ _

theorem compareThermal_rest : s.compareThermal.rest = s.rest := (compareThermal_keeps s).1
theorem compareThermal_arb : s.compareThermal.arb = s.arb := (compareThermal_keeps s).2.1
theorem compareThermal_crq : s.compareThermal.crq = s.crq := (compareThermal_keeps s).2.2

theorem stallJob_crq (p : JobPort) :
    (s.stallJob p).crq = if s.crq.length < 64 then s.crq ++ [.notice (.jobEvent p .stalled)] else s.crq := by
  obtain ⟨-, -, -, -, -, -, room, full, -⟩ := stallJob_cases s p
  split
  · next few => exact (room few).1
  · next many => exact (full (Nat.not_lt.mp many)).1

end

/-- `HeadFollows` is about the Head Drive with L aside. -/
theorem State.HeadFollows.of_withLimit {t : State} {h : Head} {limit : Nat} (k : t.HeadFollows (h.withLimit limit)) : t.HeadFollows h :=
  ⟨k.fromIdle, k.fromSettle, k.stays, k.clears, k.free, k.runsOn⟩

/-! ## CONFIG PRINT's effect -/

section
variable (s : State) (x : PrintSettings)

/-- The settings written and the stall timer compared. -/
def State.printWritten : State := (s.writePrint x).watchStall.compareStall

theorem printWritten_head : (s.printWritten x).head = { s.head with speed := x.speed, dotLimit := x.dotLimit } := by
  rw [State.printWritten, compareStall_head, watchStall_head]
  rfl

theorem printWritten_mon : (s.printWritten x).mon = { s.mon with otLimit := x.otLimit } := by
  rw [State.printWritten, compareStall_mon, watchStall_mon]
  rfl

theorem printWritten_rest : (s.printWritten x).rest = { s.rest with comp := { s.comp with settings := x.composer } } := by
  rw [State.printWritten, compareStall_rest, watchStall_rest]
  rfl

theorem configPrint_eq : s.configPrint x = (s.printWritten x).recomputeLimit.compareThermal := rfl

theorem configPrint_rest : (s.configPrint x).rest = { s.rest with comp := { s.comp with settings := x.composer } } := by
  rw [configPrint_eq, compareThermal_rest, recomputeLimit_rest, printWritten_rest]

/-- Of the Arbiter and the CRQ, the comparison of T leaves what the writing gave. -/
theorem configPrint_arb_crq : (s.configPrint x).arb = (s.printWritten x).arb ∧ (s.configPrint x).crq = (s.printWritten x).crq := by
  rw [configPrint_eq, compareThermal_arb, compareThermal_crq, recomputeLimit_eq]
  exact ⟨rfl, rfl⟩

theorem configPrint_mon : ∃ supplyOwed thermOwed, (s.configPrint x).mon
    = { ({ s.mon with otLimit := x.otLimit } : Monitor).comparedThermal with supplyOwed := supplyOwed, thermOwed := thermOwed } := by
  obtain ⟨supplyOwed, thermOwed, mon⟩ := compareThermal_mon (s.printWritten x).recomputeLimit
  rw [recomputeLimit_mon, printWritten_mon] at mon
  exact ⟨supplyOwed, thermOwed, mon⟩

theorem recomputed_settings (u : State) : u.recomputeLimit.compareThermal.head.speed = u.head.speed
    ∧ u.recomputeLimit.compareThermal.head.dotLimit = u.head.dotLimit := by
  obtain ⟨state, settle, head⟩ := compareThermal_head u.recomputeLimit
  rw [head]
  exact ⟨rfl, rfl⟩

theorem configPrint_head : (s.configPrint x).head.speed = x.speed ∧ (s.configPrint x).head.dotLimit = x.dotLimit := by
  obtain ⟨speed, dotLimit⟩ := recomputed_settings (s.printWritten x)
  rw [printWritten_head] at speed dotLimit
  exact ⟨speed, dotLimit⟩

theorem configPrint_port : (s.configPrint x).port
    = (s.printWritten x).port.raisedIf (!s.mon.thermalHold && (s.configPrint x).mon.thermalHold) .thermalHold := by
  have port := compareThermal_port (s.printWritten x).recomputeLimit
  obtain ⟨_, _, mon⟩ := configPrint_mon s x
  rw [recomputeLimit_mon, printWritten_mon] at port
  rw [mon]
  exact port

theorem configPrint_headFollows : (s.configPrint x).HeadFollows { s.head with speed := x.speed, dotLimit := x.dotLimit } := by
  rw [configPrint_eq, ← printWritten_head]
  exact State.HeadFollows.of_withLimit (compareThermal_headFollows (s.printWritten x).recomputeLimit)

/-- The state that CONFIG PRINT's new timeouts meet: of its settings, the Arbiter's and the Composer's. -/
def State.arbWritten : State := (s.setArb { s.arb with settings := x.arbiter }).setComp { s.comp with settings := x.composer }

theorem writePrint_arb : (s.writePrint x).arb = { s.arb with settings := x.arbiter } := by
  rw [State.writePrint, setMon_arb, setHead_arb, setComp_arb, setArb_arb]

theorem arbWritten_arb : (s.arbWritten x).arb = { s.arb with settings := x.arbiter } := by
  rw [State.arbWritten, setComp_arb, setArb_arb]

theorem writePrint_crq : (s.writePrint x).crq = s.crq := by
  rw [State.writePrint, setMon_crq, setHead_crq, setComp_crq, setArb_crq]

theorem writePrint_now : (s.writePrint x).now = s.now := by
  rw [State.writePrint, setMon_now, setHead_now, setComp_now, setArb_now]

theorem arbWritten_crq : (s.arbWritten x).crq = s.crq := by
  rw [State.arbWritten, setComp_crq, setArb_crq]

theorem writePrint_stallRuns : (s.writePrint x).stallRuns = (s.arbWritten x).stallRuns := rfl

theorem watchStall_settings_now : (s.writePrint x).watchStall.arb.settings = x.arbiter ∧ (s.writePrint x).watchStall.now = s.now := by
  have kept := kept_watchStall (s.writePrint x)
  rw [kept.arbiter, kept.now, writePrint_arb, writePrint_now]
  exact ⟨rfl, rfl⟩

variable {s x}

section
variable {w : State} {timeout : Nat}

theorem compareStall_of_free (free : w.arb.hold = none) : w.compareStall = w := by rw [State.compareStall, free]

theorem compareStall_of_hold {p : JobPort} (holds : w.arb.hold = some p) :
    w.compareStall = if w.stallDue then w.stallJob p else w := by rw [State.compareStall, holds]

/-- A stall timer that is not due changes nothing. -/
theorem compareStall_of_not_due (early : w.stallDue = false) : w.compareStall = w := by
  cases hold : w.arb.hold with
  | none => exact compareStall_of_free hold
  | some p => rw [compareStall_of_hold hold, early, if_neg Bool.false_ne_true]

theorem stallDue_of_none (none : w.arb.stall = none) : w.stallDue = false := by
  rw [State.stallDue, none]
  rfl

theorem stallDue_iff_of_some {start : Nat} (runs : w.arb.stall = some start) :
    w.stallDue = true ↔ start + 3000000 * w.arb.settings.stallS ≤ w.now := by
  have length : w.arb.settings.stallS * 1000 * Config.unitsPerMs = 3000000 * w.arb.settings.stallS := by
    rw [Nat.mul_assoc, Nat.mul_comm]
    rfl
  rw [State.stallDue, runs, length]
  exact decide_eq_true_iff

end

theorem printWritten_of_stopped (stops : (s.arbWritten x).stallRuns = false) :
    (s.printWritten x).arb = { (s.arbWritten x).arb with stall := none } ∧ (s.printWritten x).crq = s.crq := by
  have watched := watchStall_of_stopped ((writePrint_stallRuns s x).trans stops)
  have off : (s.writePrint x).watchStall.arb.stall = none := by rw [watched, setArb_arb]
  rw [State.printWritten, compareStall_of_not_due (stallDue_of_none off), watched, setArb_arb, setArb_crq, writePrint_arb, writePrint_crq,
    arbWritten_arb]
  exact ⟨rfl, rfl⟩

theorem printWritten_of_start (runs : (s.arbWritten x).stallRuns = true) (stopped : s.arb.stall = none) (positive : 1 ≤ x.arbiter.stallS) :
    (s.printWritten x).arb = { (s.arbWritten x).arb with stall := some s.now } ∧ (s.printWritten x).crq = s.crq := by
  have watched := watchStall_of_start ((writePrint_stallRuns s x).trans runs) (by rw [writePrint_arb]; exact stopped)
  have started : (s.writePrint x).watchStall.arb.stall = some s.now := by rw [watched, setArb_arb, writePrint_now]
  obtain ⟨settings, now⟩ := watchStall_settings_now s x
  have early : (s.writePrint x).watchStall.stallDue = false := by
    rw [← Bool.not_eq_true, stallDue_iff_of_some started, settings, now]
    omega
  rw [State.printWritten, compareStall_of_not_due early, watched, setArb_arb, setArb_crq, writePrint_arb, writePrint_crq, writePrint_now,
    arbWritten_arb]
  exact ⟨rfl, rfl⟩

section
variable {start : Nat} (runs : (s.arbWritten x).stallRuns = true) (running : s.arb.stall = some start)
include runs running

theorem watchStall_writePrint : (s.writePrint x).watchStall = s.writePrint x ∧ (s.writePrint x).arb.stall = some start := by
  have timer : (s.writePrint x).arb.stall = some start := by rw [writePrint_arb]; exact running
  exact ⟨watchStall_of_running ((writePrint_stallRuns s x).trans runs) (by rw [timer]; exact Option.some_ne_none _), timer⟩

theorem stallDue_writePrint : (s.writePrint x).stallDue = true ↔ start + 3000000 * x.arbiter.stallS ≤ s.now := by
  obtain ⟨-, timer⟩ := watchStall_writePrint runs running
  rw [stallDue_iff_of_some timer, writePrint_arb, writePrint_now]

theorem printWritten_of_early (early : s.now < start + 3000000 * x.arbiter.stallS) :
    (s.printWritten x).arb = (s.arbWritten x).arb ∧ (s.printWritten x).crq = s.crq := by
  obtain ⟨watched, -⟩ := watchStall_writePrint runs running
  have notDue : (s.writePrint x).stallDue = false := by
    rw [← Bool.not_eq_true, stallDue_writePrint runs running]
    exact Nat.not_le.mpr early
  rw [State.printWritten, watched, compareStall_of_not_due notDue, writePrint_arb, writePrint_crq, arbWritten_arb]
  exact ⟨rfl, rfl⟩

theorem printWritten_of_due {p : JobPort} (holds : s.arb.hold = some p) (due : start + 3000000 * x.arbiter.stallS ≤ s.now) :
    s.printWritten x = (s.writePrint x).stallJob p := by
  obtain ⟨watched, -⟩ := watchStall_writePrint runs running
  have holder : (s.writePrint x).arb.hold = some p := by rw [writePrint_arb]; exact holds
  rw [State.printWritten, watched, compareStall_of_hold holder, if_pos ((stallDue_writePrint runs running).mpr due)]

end

theorem writePrint_stallJob (p : JobPort) : ((s.writePrint x).stallJob p).arb = ((s.arbWritten x).stallJob p).arb
    ∧ ((s.writePrint x).stallJob p).crq = ((s.arbWritten x).stallJob p).crq := by
  rw [stallJob_arb, stallJob_arb, stallJob_crq, stallJob_crq, writePrint_arb, writePrint_crq, arbWritten_arb, arbWritten_crq]
  exact ⟨rfl, rfl⟩

end

theorem dropJob_settings (a : Arbiter) (p : JobPort) (gone rest : List PortCell) (releases discards : Bool) :
    (a.dropJob p gone rest releases discards).settings = a.settings := by
  cases p <;> cases releases <;> cases discards <;> rfl

theorem compareStall_settings (s : State) : s.compareStall.arb.settings = s.arb.settings := by
  unfold State.compareStall
  split
  · split
    · rw [stallJob_arb, dropJob_settings]
    · rfl
  · rfl

theorem printWritten_settings (s : State) (x : PrintSettings) : (s.printWritten x).arb.settings = x.arbiter := by
  rw [State.printWritten, compareStall_settings, (kept_watchStall _).arbiter]
  rfl

theorem thermalHoldAfter_cases (hold : Bool) (t : Int) (limit : Nat) : thermalHoldAfter hold t limit = true
    ↔ (hold = false ∧ (limit : Int) < t) ∨ (hold = true ∧ (limit : Int) - 8 < t) := by
  cases hold <;> simp [thermalHoldAfter]

/-- Settles O46: the settings written, then the comparisons in their order; each touches its own units only. -/
theorem configPrintWrites : Obligations.ConfigPrintWrites := by
  refine ⟨⟨rfl, rfl, fun _ => crMode?_of_past⟩, fun _ _ _ => fin?_eq_some_iff, fun p s present short => ⟨fun past => ?bad,
    fun speed cr hspeed hcr => ?written⟩, fun s x => ?effect⟩
  case bad => exact completes_of_portBody rfl present short (field_none (printSettings?_of_past past) _ _)
  case written => exact completes_of_portBody rfl present short (field_some (printSettings?_of_fields hspeed hcr) _ _)
  case effect =>
    intro t
    have rest : t.rest = _ := configPrint_rest s x
    obtain ⟨supplyOwed, thermOwed, mon⟩ := configPrint_mon s x
    have mon : t.mon = _ := mon
    have follows : t.HeadFollows _ := configPrint_headFollows s x
    have port : t.port = _ := configPrint_port s x
    obtain ⟨arb, crq⟩ := configPrint_arb_crq s x
    have arb : t.arb = _ := arb
    have crq : t.crq = _ := crq
    have hold : t.mon.thermalHold = thermalHoldAfter s.mon.thermalHold s.mon.temp x.otLimit := by rw [mon]; rfl
    obtain ⟨speed, dotLimit⟩ := configPrint_head s x
    obtain ⟨raises, -⟩ := raisedIf_cases (x := (s.printWritten x).port) (before := s.mon.thermalHold) (now := t.mon.thermalHold) .thermalHold
    rw [← port] at raises
    have comp : t.comp = { s.comp with settings := x.composer } := congrArg Untouched.comp rest
    refine ⟨?settings, congrArg Composer.settings comp, speed, dotLimit, by rw [mon]; rfl, configPrint_limit s x, ?_, raises, follows,
      congrArg Untouched.line rest, congrArg Untouched.engine rest, congrArg Untouched.tx rest, congrArg Untouched.keys rest,
      congrArg Untouched.store rest, congrArg Untouched.rtq rest, by rw [comp], by rw [comp], ?_⟩
    · rw [arb]
      exact printWritten_settings s x
    · rw [hold]
      exact thermalHoldAfter_cases _ _ _
    · intro u
      rw [arb, crq]
      refine ⟨printWritten_of_stopped, fun runs stopped positive => printWritten_of_start runs stopped positive,
        fun runs start p running holds => ⟨printWritten_of_early runs running, fun due => ?_⟩⟩
      have written := printWritten_of_due runs running holds due
      obtain ⟨sameArb, sameCrq⟩ := writePrint_stallJob (s := s) (x := x) p
      obtain ⟨free, -, discarding, -, -, -, -, -, -, error, -⟩ := stallJob_cases (s.writePrint x) p
      rw [← written] at sameArb sameCrq free discarding error
      refine ⟨sameArb, sameCrq, free, discarding, ?_⟩
      rw [port, namesCause_raisedIf, error, Bool.true_or]

end Sys2Proof.Machine
end

section
/-!
SUPPORT. The Arbiter's grant: the first port of highest priority in cyclic order (R118), and what the grant moves (R119, R120, R133).
-/

namespace Sys2Proof.Machine

/-! ## The choice (R118) -/

/-- The best port of a list: those before it have a lower priority, those after it no higher one. -/
theorem bestPort_split {c : ArbiterSettings} {l : List PortId} {q : PortId} (best : bestPort c l = some q) :
    ∃ before behind, l = before ++ q :: behind ∧ (∀ o ∈ before, c.priority o < c.priority q) ∧ ∀ o ∈ behind, c.priority o ≤ c.priority q := by
  induction l generalizing q with
  | nil => cases best
  | cons p rest ih =>
    rw [bestPort] at best
    cases ahead : bestPort c rest with
    | none =>
      rw [ahead] at best
      cases best
      have empty : rest = [] := by
        cases rest with
        | nil => rfl
        | cons r more =>
          rw [bestPort] at ahead
          split at ahead
          · cases ahead
          · split at ahead <;> cases ahead
      exact ⟨[], rest, rfl, nofun, by simp [empty]⟩
    | some r =>
      obtain ⟨before, behind, split, lower, upTo⟩ := ih ahead
      rw [ahead] at best
      dsimp only at best
      split at best
      · next less =>
        cases best
        refine ⟨p :: before, behind, by rw [split]; rfl, fun o mem => ?_, upTo⟩
        rcases List.mem_cons.mp mem with rfl | mem
        · exact less
        · exact lower o mem
      · next notLess =>
        cases best
        have top : c.priority r ≤ c.priority p := Nat.not_lt.mp notLess
        refine ⟨[], rest, rfl, nofun, fun o mem => ?_⟩
        rw [split, List.mem_append, List.mem_cons] at mem
        rcases mem with mem | rfl | mem
        · exact Nat.le_trans (Nat.le_of_lt (lower o mem)) top
        · exact top
        · exact Nat.le_trans (upTo o mem) top

theorem bestPort_eq_none_iff {c : ArbiterSettings} {l : List PortId} : bestPort c l = none ↔ l = [] := by
  refine ⟨fun none => ?_, fun empty => by rw [empty]; rfl⟩
  cases l with
  | nil => rfl
  | cons p rest =>
    rw [bestPort] at none
    split at none
    · cases none
    · split at none <;> cases none

/-- How far a port stands behind the last granted one, less one. -/
def cyclicRank (last q : PortId) : Nat := (portCode q + 3 - portCode last) % 4

theorem cyclicAfter_ascending (last : PortId) : (cyclicAfter last).Pairwise fun o q => cyclicRank last o < cyclicRank last q := by
  cases last <;> decide

theorem mem_cyclicAfter (last q : PortId) : q ∈ cyclicAfter last := by cases last <;> cases q <;> decide

section
variable {s : State}

theorem grantable_iff (q : PortId) : s.grantable q = true ↔ s.eligible q = true ∧ ∀ h, s.arb.hold = some h → h.toPort = q := by
  unfold State.grantable
  cases s.arb.hold <;> simp

theorem grantChoice_eq_some {q : PortId} (choice : s.grantChoice = some q) : s.comp.line = none ∧ s.arb.pause = false
    ∧ bestPort s.arb.settings ((cyclicAfter s.arb.lastGranted).filter s.grantable) = some q := by
  rw [State.grantChoice] at choice
  split at choice
  · next may =>
    rw [Bool.and_eq_true, Option.isNone_iff_eq_none, Bool.not_eq_true'] at may
    exact ⟨may.1, may.2, choice⟩
  · cases choice

theorem grantChoice_of_idle (idle : s.comp.line = none) (going : s.arb.pause = false) :
    s.grantChoice = bestPort s.arb.settings ((cyclicAfter s.arb.lastGranted).filter s.grantable) :=
  if_pos (by rw [idle, going]; rfl)

theorem grantChoice_is_best {q : PortId} (choice : s.grantChoice = some q) :
    s.comp.line = none ∧ s.arb.pause = false ∧ s.eligible q = true
    ∧ (∀ h, s.arb.hold = some h → h.toPort = q)
    ∧ (s.arb.hold = none → ∀ o : PortId, s.eligible o = true →
        s.arb.settings.priority o ≤ s.arb.settings.priority q
        ∧ (s.arb.settings.priority o = s.arb.settings.priority q → cyclicRank s.arb.lastGranted q ≤ cyclicRank s.arb.lastGranted o)) := by
  obtain ⟨idle, going, best⟩ := grantChoice_eq_some choice
  obtain ⟨before, behind, split, lower, upTo⟩ := bestPort_split best
  have among : q ∈ (cyclicAfter s.arb.lastGranted).filter s.grantable := by rw [split]; simp
  obtain ⟨eligible, holder⟩ := (grantable_iff q).mp (List.mem_filter.mp among).2
  have ascending := (cyclicAfter_ascending s.arb.lastGranted).filter s.grantable
  rw [split] at ascending
  have behindQ := (List.pairwise_cons.mp (List.pairwise_append.mp ascending).2.1).1
  refine ⟨idle, going, eligible, holder, fun free o may => ?_⟩
  have mem : o ∈ (cyclicAfter s.arb.lastGranted).filter s.grantable :=
    List.mem_filter.mpr ⟨mem_cyclicAfter _ _, (grantable_iff o).mpr ⟨may, fun h held => by rw [free] at held; cases held⟩⟩
  rw [split, List.mem_append, List.mem_cons] at mem
  rcases mem with mem | rfl | mem
  · exact ⟨Nat.le_of_lt (lower o mem), fun same => absurd same (Nat.ne_of_lt (lower o mem))⟩
  · exact ⟨Nat.le_refl _, fun _ => Nat.le_refl _⟩
  · exact ⟨upTo o mem, fun _ => Nat.le_of_lt (behindQ o mem)⟩

theorem not_grantable_of_no_choice (none : s.grantChoice = none) (idle : s.comp.line = .none) (going : s.arb.pause = false) (q : PortId) :
    s.grantable q = false := by
  have empty := bestPort_eq_none_iff.mp ((grantChoice_of_idle idle going).symm.trans none)
  exact (Bool.not_eq_true _).mp (List.filter_eq_nil_iff.mp empty q (mem_cyclicAfter _ _))

/-! ## The grant (R119, R120, R133) -/

theorem grant_of_line {q : PortId} {line rest : List PortCell} (cut : s.textLine q = some (line, rest)) :
    s.grant q = (s.setArb { s.arb.setPort q ((s.arb.port q).compose line rest) with
        hold := if holdsMark .jobStart line then (jobOf? q).orElse (fun _ => s.arb.hold) else s.arb.hold
        lastGranted := q }).setComp
      { s.comp with line := some { port := q, entries := lineEntries s.store s.comp.settings line
                                   jobEnd := holdsMark .jobEnd line } } := by
  rw [State.grant, cut]

theorem port_of_hold_lastGranted (a : Arbiter) (hold : Option JobPort) (last q : PortId) :
    ({ a with hold := hold, lastGranted := last } : Arbiter).port q = a.port q := by cases q <;> rfl

end

/-- Settles O48: by how the best port divides the list of grantable ports, which stands in cyclic order. -/
theorem grantGoesToBestPort : Obligations.GrantGoesToBestPort := by
  refine ⟨fun s q => grantChoice_is_best, fun s none idle going => ?none, fun s q line rest cut => ?grant⟩
  case none =>
    have notAny := not_grantable_of_no_choice none idle going
    refine ⟨fun h held => ?_, fun free o => ?_⟩
    · refine (Bool.not_eq_true _).mp fun may => Bool.false_ne_true ((notAny h.toPort).symm.trans ((grantable_iff _).mpr ⟨may, fun g holds => ?_⟩))
      rw [held] at holds
      cases holds
      rfl
    · refine (Bool.not_eq_true _).mp fun may => Bool.false_ne_true ((notAny o).symm.trans ((grantable_iff _).mpr ⟨may, fun g holds => ?_⟩))
      rw [free] at holds
      cases holds
  case grant =>
    intro t
    have granted : t = _ := grant_of_line cut
    have port (o : PortId) : t.arb.port o = (s.arb.setPort q ((s.arb.port q).compose line rest)).port o := by
      rw [granted]
      exact port_of_hold_lastGranted _ _ _ _
    refine ⟨?_, ?_, fun o other => ?_, by rw [granted]; rfl, by rw [granted]; rfl, fun noStart => ?_, fun p is start => ?_⟩
    · rw [port, arbiter_port_setPort_same]
      rfl
    · rw [port, arbiter_port_setPort_same]
      rfl
    · rw [port, arbiter_port_setPort_other _ other]
    · rw [granted, noStart]
      rfl
    · rw [granted, start, is, jobOf?_toPort]
      rfl

end Sys2Proof.Machine
end

section
/-!
SUPPORT. The Head Drive's moves: the end of a phase, of a row period and of the settle time, the start of a row and its periods (R142, R147, R151 to R154).
-/

namespace Sys2Proof.Machine

/-! ## The state of the Head Drive -/

section
variable {s : State}

/-- A Head Drive at work that moves makes nothing owed. -/
theorem moveHead_of_working (working : s.head.state ≠ .idle) (x : HeadState) : s.moveHead x = s.setHead { s.head with state := x } := by
  have parts : s.moveHead x = (s.setHead { s.head with state := x }).setMon (s.moveHead x).mon := rfl
  rw [parts, moveHead_mon_of_working working]
  rfl

theorem moveHead_head (s : State) (x : HeadState) : (s.moveHead x).head = { s.head with state := x } := rfl

/-! ## The end of a phase (R151, R153) -/

section
variable {r : RowRun} (row : s.head.row = some r)
include row

theorem endPhase_of_next {done next : Phase} {rest : List Phase} (phases : r.phases = done :: next :: rest) :
    s.endPhase = s.setHead { s.head with
      row := some { r with phases := next :: rest, phaseEnd := r.phaseEnd + 3 * next.duration } } := by
  rw [State.endPhase, row, Nat.mul_comm 3]
  simp only [phases, List.tail_cons]
  rfl

theorem endPhase_of_last (last : r.phases.length ≤ 1) : s.endPhase = if r.periodEnd ≤ r.phaseEnd then s.endRow
    else (s.setHead { s.head with row := some { r with phases := [] } }).moveHead .advancing := by
  have tail : r.phases.tail = [] := List.length_eq_zero_iff.mp (by rw [List.length_tail]; omega)
  rw [State.endPhase, row]
  simp only [tail]

theorem endPhase_of_wait (last : r.phases.length ≤ 1) (early : r.phaseEnd < r.periodEnd) (firing : s.head.state = .firing) :
    s.endPhase = s.setHead { s.head with row := some { r with phases := [] }, state := .advancing } := by
  have working : (s.setHead { s.head with row := some { r with phases := [] } }).head.state ≠ .idle := by
    rw [setHead_head, firing]
    decide
  rw [endPhase_of_last row last, if_neg (Nat.not_le.mpr early), moveHead_of_working working]
  rfl

theorem phaseDue_of_firing (firing : s.head.state = .firing) : s.phaseDue = some r.phaseEnd := by
  rw [State.phaseDue, firing, row]
  rfl

theorem rowDue_of_row (under : s.head.state = .firing ∨ s.head.state = .advancing) : s.rowDue = some r.periodEnd := by
  rcases under with state | state <;> rw [State.rowDue, state, row] <;> rfl

theorem completes_phaseEnd {t : State} (firing : s.head.state = .firing) (ends : (s.reach r.phaseEnd).endPhase = t) :
    Completes .phaseEnd s t := ends ▸ completes_of_expiry (c := .phaseEnd) (f := State.endPhase) rfl (phaseDue_of_firing row firing)

end

theorem settleDue_of_settle {start : Nat} (state : s.head.state = .settle) (runs : s.head.settle = some start) :
    s.settleDue = some (start + 1500000) := by
  rw [State.settleDue, state, runs]
  rfl

/-! ## The end of a row (R147, R152, R153, R157) -/

section
variable {h : Head} (now : Nat)

theorem rowEnded_eq_of_reset (reset : h.clearAtEnd = true) : h.rowEnded now
    = { h with inHand := .none, row := none, history := 0, idleSince := none, clearAtEnd := false } := if_pos reset

theorem rowEnded_eq_of_dots (running : h.clearAtEnd = false) {row : DotRow} (hand : h.inHand = .dots row) : h.rowEnded now
    = { h with inHand := .none, row := none, history := row, idleSince := some now } := by
  rw [Head.rowEnded, running, hand]
  rfl

theorem rowEnded_eq_of_feed (running : h.clearAtEnd = false) {n : Nat} (hand : h.inHand = .feed n) : h.rowEnded now
    = { h with inHand := if n ≤ 1 then .none else .feed (n - 1), row := none, history := 0 } := by
  rw [Head.rowEnded, running, hand]
  rfl

theorem rowEnded_row (h : Head) : (h.rowEnded now).row = none := by
  unfold Head.rowEnded
  split
  · rfl
  · split <;> rfl

end

/-! ## The next row (R142, R153) -/

theorem headWork_iff (s : State) : s.headWork = true ↔ (∃ n, s.head.inHand = .feed n ∧ 0 < n) ∨ s.comp.rows ≠ [] := by
  rw [State.headWork, Bool.or_eq_true, Bool.not_eq_true', List.isEmpty_eq_false_iff]
  refine or_congr_left ?_
  cases s.head.inHand <;> simp

theorem nextRow_of_hold (held : s.mon.anyHold = true) : s.nextRow = s.moveHead .hold := if_pos held

theorem nextRow_of_work (free : s.mon.anyHold = false) (work : s.headWork = true) : s.nextRow = s.startRow := by
  rw [State.nextRow, free, work]
  rfl

theorem nextRow_of_rest (free : s.mon.anyHold = false) (rest : s.headWork = false) : s.nextRow = s.moveHead .idle := by
  rw [State.nextRow, free, rest]
  rfl

theorem startRow_of_feed {n : Nat} (hand : s.head.inHand = .feed n) (pos : 0 < n) : s.startRow = s.startFeedRow n := by
  obtain ⟨m, rfl⟩ := Nat.exists_eq_succ_of_ne_zero (Nat.ne_of_gt pos)
  rw [State.startRow, hand]

section
variable (spent : ∀ n, s.head.inHand = .feed n → n = 0)
include spent

theorem startRow_of_queued_feed {n : Nat} {rest : List RowEntry} (rows : s.comp.rows = .feed n :: rest) :
    s.startRow = (s.setComp { s.comp with rows := rest }).startFeedRow n := by
  unfold State.startRow
  cases hand : s.head.inHand with
  | none | dots => rw [rows]
  | feed m =>
    rw [spent m hand, rows]

theorem startRow_of_queued_dots {row : DotRow} {rest : List RowEntry} (rows : s.comp.rows = .dots row :: rest) :
    s.startRow = (s.setComp { s.comp with rows := rest }).startDotRow row := by
  unfold State.startRow
  cases hand : s.head.inHand with
  | none | dots => rw [rows]
  | feed m =>
    rw [spent m hand, rows]

end

/-! ## The start of a row (R147, R151, R152) -/

theorem minimumPeriod_eq (speed : Fin 4) : minimumPeriod speed = [2500, 3750, 5000, 7500].getD speed.val 0 := by
  revert speed
  decide

theorem startFeedRow_head (s : State) (n : Nat) : (s.startFeedRow n).head = { s.head with
    state := .advancing, inHand := .feed n, steps := s.head.steps + 1
    row := some { phases := [], phaseEnd := s.now, periodEnd := s.now + 3 * [2500, 3750, 5000, 7500].getD s.head.speed.val 0 } } := by
  rw [← minimumPeriod_eq, Nat.mul_comm 3]
  rfl

theorem startDotRow_head {row : DotRow} {first : Phase} {rest : List Phase}
    (phases : rowPhases s.store s.mon.temp s.mon.fallback s.mon.supply s.head.limit row s.rowHistory = first :: rest) :
    (s.startDotRow row).head = { s.head with
      state := .firing, inHand := .dots row, steps := s.head.steps + 1, history := s.rowHistory, idleSince := none
      row := some { phases := first :: rest, phaseEnd := s.now + 3 * first.duration
                    periodEnd := s.now + 3 * max ((first :: rest).map Phase.duration).sum
                      ([2500, 3750, 5000, 7500].getD s.head.speed.val 0) } } := by
  rw [← minimumPeriod_eq, Nat.mul_comm 3, Nat.mul_comm 3, State.startDotRow, moveHead_head]
  simp only [phases]
  rfl

end

/-! ## A phase's length (R151) -/

theorem foldl_max_spec (l : List Nat) (a : Nat) :
    a ≤ l.foldl max a ∧ (∀ x ∈ l, x ≤ l.foldl max a) ∧ (l.foldl max a = a ∨ l.foldl max a ∈ l) := by
  induction l generalizing a with
  | nil => exact ⟨Nat.le_refl a, nofun, .inl rfl⟩
  | cons b l ih =>
    obtain ⟨start, bound, attained⟩ := ih (max a b)
    rw [List.foldl_cons]
    refine ⟨Nat.le_trans (Nat.le_max_left a b) start, fun x mem => ?_, ?_⟩
    · rcases List.mem_cons.mp mem with rfl | mem
      · exact Nat.le_trans (Nat.le_max_right a x) start
      · exact bound x mem
    · rcases attained with is | mem
      · rcases Nat.le_total a b with below | above
        · exact .inr (List.mem_cons.mpr (.inl (is.trans (Nat.max_eq_right below))))
        · exact .inl (is.trans (Nat.max_eq_left above))
      · exact .inr (List.mem_cons_of_mem _ mem)

theorem mkPhase_duration (fs : List GroupFire) : (mkPhase fs).duration = (fs.map GroupFire.strobe).foldl max 0 + 20 := rfl

theorem strobe_le_mkPhase {fs : List GroupFire} {f : GroupFire} (mem : f ∈ fs) : f.strobe + 20 ≤ (mkPhase fs).duration :=
  Nat.add_le_add_right ((foldl_max_spec _ 0).2.1 _ (List.mem_map_of_mem mem)) 20

theorem mkPhase_attained {fs : List GroupFire} (some : fs ≠ []) : ∃ f ∈ fs, (mkPhase fs).duration = f.strobe + 20 := by
  obtain ⟨start, bound, attained⟩ := foldl_max_spec (fs.map GroupFire.strobe) 0
  rcases attained with zero | mem
  · obtain ⟨f, mem⟩ := List.exists_mem_of_ne_nil fs some
    have low := bound _ (List.mem_map_of_mem mem)
    refine ⟨f, mem, ?_⟩
    rw [mkPhase_duration]
    omega
  · obtain ⟨f, mem, is⟩ := List.mem_map.mp mem
    exact ⟨f, mem, by rw [mkPhase_duration, is]⟩

/-- Settles O50: each move by the branch of its definition. -/
theorem headDriveMoves : Obligations.HeadDriveMoves := by
  refine ⟨fun s r row firing => ⟨fun done next rest phases => ?_, fun last ends => ?_, fun last waits => ?_⟩,
    fun s r row under => completes_of_expiry (c := .rowPeriodEnd) (f := State.endRow) rfl (rowDue_of_row row under),
    fun s start state runs => completes_of_expiry (c := .settleExpiry) (f := State.endSettle) rfl (settleDue_of_settle state runs),
    fun s => ⟨rfl, rowEnded_row _ _, fun running row hand => ?_, fun running n hand => ?_, fun reset => ?_⟩,
    fun s => ⟨nextRow_of_hold, nextRow_of_work, nextRow_of_rest, headWork_iff s⟩,
    fun s => ⟨fun n => startRow_of_feed, fun spent => ⟨fun n rest => startRow_of_queued_feed spent, fun row rest => startRow_of_queued_dots spent⟩⟩,
    fun s => ⟨startFeedRow_head s, fun row => ?_⟩, fun fs some => ⟨mkPhase_attained some, fun f => strobe_le_mkPhase⟩,
    fun s => ⟨rowHistory_of_no_idle_timer, fun start => rowHistory_of_idle_timer⟩⟩
  · exact completes_phaseEnd row firing (endPhase_of_next (s := s.reach r.phaseEnd) row phases)
  · exact completes_phaseEnd row firing ((endPhase_of_last (s := s.reach r.phaseEnd) row last).trans (if_pos ends))
  · exact completes_phaseEnd row firing (endPhase_of_wait (s := s.reach r.phaseEnd) row last waits firing)
  · rw [rowEnded_eq_of_dots _ running hand]
    exact ⟨rfl, rfl, rfl⟩
  · rw [rowEnded_eq_of_feed _ running hand]
    exact ⟨rfl, rfl⟩
  · rw [rowEnded_eq_of_reset _ reset]
    exact ⟨rfl, rfl, rfl⟩
  · intro phases lasts first rest is
    have head := startDotRow_head is
    rw [← is] at head
    exact head

end Sys2Proof.Machine
end

section
/-!
SUPPORT. The rows of a line as entries (R133, R136), the pen and its placed cells (R134), and the dots of a band row (R131, R132, R135).
-/

namespace Sys2Proof.Machine

/-! ## Rows as entries (R136) -/

/-- The rows an entry stands for. -/
def RowEntry.expand : RowEntry → List DotRow
  | .dots row => [row]
  | .feed n => List.replicate n 0

theorem length_expand (e : RowEntry) : e.expand.length = e.rows := by cases e <;> simp [RowEntry.expand, RowEntry.rows]

/-- An entry is a black row or a Feed Run of 1 to 255. -/
def RowEntry.Proper : RowEntry → Prop
  | .dots row => row ≠ 0
  | .feed n => 1 ≤ n ∧ n ≤ 255

/-- A Feed Run before another is full. -/
def FeedsFull (l : List RowEntry) : Prop := ∀ before n m behind, l = before ++ .feed n :: .feed m :: behind → n = 255

theorem flatMap_replicate (k n : Nat) : (List.replicate k (RowEntry.feed n)).flatMap RowEntry.expand = List.replicate (k * n) 0 := by
  induction k with
  | zero => simp
  | succ k ih => rw [List.replicate_succ, List.flatMap_cons, ih, RowEntry.expand, List.replicate_append_replicate, Nat.succ_mul, Nat.add_comm]

theorem expand_feedRuns (w : Nat) : (feedRuns w).flatMap RowEntry.expand = List.replicate w 0 := by
  rw [feedRuns, List.flatMap_append, flatMap_replicate]
  split
  · next whole =>
    have all : w / 255 * 255 = w := by omega
    rw [all]
    simp
  · have all : w / 255 * 255 + w % 255 = w := by omega
    rw [List.flatMap_singleton, RowEntry.expand, List.replicate_append_replicate, all]

theorem proper_feedRuns {w : Nat} {e : RowEntry} (mem : e ∈ feedRuns w) : e.Proper := by
  rw [feedRuns, List.mem_append] at mem
  rcases mem with full | part
  · rw [List.eq_of_mem_replicate full]
    exact ⟨by decide, by decide⟩
  · split at part
    · cases part
    · rw [List.mem_singleton.mp part]
      exact ⟨by omega, by omega⟩

theorem feedsFull_nil : FeedsFull [] := fun before _ _ _ split => by cases before <;> cases split

theorem FeedsFull.cons {e : RowEntry} {l : List RowEntry} (rest : FeedsFull l)
    (full : ∀ n m behind, e = .feed n → l = .feed m :: behind → n = 255) : FeedsFull (e :: l) := by
  intro before n m behind split
  cases before with
  | nil =>
    obtain ⟨is, next⟩ := List.cons.inj split
    exact full n m behind is next
  | cons first before => exact rest before n m behind (List.cons.inj split).2

theorem FeedsFull.replicate_append {l : List RowEntry} (rest : FeedsFull l) (k : Nat) :
    FeedsFull (List.replicate k (.feed 255) ++ l) := by
  induction k with
  | zero => exact rest
  | succ k ih => exact ih.cons fun _ _ _ is _ => (RowEntry.feed.inj is).symm

theorem FeedsFull.feedRuns_append {l : List RowEntry} (rest : FeedsFull l) (starts : ∀ m behind, l ≠ .feed m :: behind) (w : Nat) :
    FeedsFull (feedRuns w ++ l) := by
  rw [feedRuns, List.append_assoc]
  refine FeedsFull.replicate_append ?_ _
  split
  · exact rest
  · exact rest.cons fun _ m behind _ next => absurd next (starts m behind)

theorem expand_rowEntries (run : Nat) (rows : List DotRow) : (rowEntries run rows).flatMap RowEntry.expand = List.replicate run 0 ++ rows := by
  induction rows generalizing run with
  | nil => rw [rowEntries, expand_feedRuns, List.append_nil]
  | cons r rest ih =>
    rw [rowEntries]
    split
    · next white =>
      rw [ih, white, List.replicate_succ', List.append_assoc]
      rfl
    · rw [List.flatMap_append, expand_feedRuns, List.flatMap_cons, ih]
      rfl

theorem proper_rowEntries {run : Nat} {rows : List DotRow} {e : RowEntry} (mem : e ∈ rowEntries run rows) : e.Proper := by
  induction rows generalizing run with
  | nil => exact proper_feedRuns mem
  | cons r rest ih =>
    rw [rowEntries] at mem
    split at mem
    · exact ih mem
    · next black =>
      rw [List.mem_append, List.mem_cons] at mem
      rcases mem with feeds | rfl | later
      · exact proper_feedRuns feeds
      · exact black
      · exact ih later

theorem feedsFull_rowEntries (run : Nat) (rows : List DotRow) : FeedsFull (rowEntries run rows) := by
  induction rows generalizing run with
  | nil =>
    rw [rowEntries, ← List.append_nil (feedRuns run)]
    exact feedsFull_nil.feedRuns_append (fun _ _ => nofun) run
  | cons r rest ih =>
    rw [rowEntries]
    split
    · exact ih _
    · exact ((ih 0).cons fun _ _ _ is => by cases is).feedRuns_append (fun _ _ is => by cases is) run

theorem lineEntries_of_marks {st : Store} {cfg : ComposerSettings} {line : List PortCell} (marks : ∀ c ∈ line, c.isMark = true) :
    lineEntries st cfg line = [] := if_pos (List.all_eq_true.mpr marks)

theorem lineEntries_of_char {st : Store} {cfg : ComposerSettings} {line : List PortCell} (some : ∃ c ∈ line, c.isMark = false) :
    lineEntries st cfg line = rowEntries 0 (lineRows st cfg line) := by
  obtain ⟨c, mem, char⟩ := some
  exact if_neg fun all => Bool.false_ne_true (char.symm.trans (List.all_eq_true.mp all c mem))

theorem endsWithFF_iff (line : List PortCell) :
    endsWithFF line = true ↔ ∃ before c style, line = before ++ [c] ∧ c.body = .char 0x0C style := by
  rcases List.eq_nil_or_concat line with rfl | ⟨before, c, rfl⟩
  · simp [endsWithFF]
  · have last : endsWithFF (before ++ [c]) = true ↔ ∃ style, c.body = .char 0x0C style := by
      rw [endsWithFF, List.getLast?_append, List.getLast?_singleton]
      cases body : c.body <;> simp [body, codeFF]
    rw [List.concat_eq_append, last]
    refine ⟨fun ⟨style, body⟩ => ⟨before, c, style, rfl, body⟩, fun ⟨_, _, style, same, body⟩ => ?_⟩
    obtain ⟨-, is⟩ := List.append_inj' same rfl
    cases is
    exact ⟨style, body⟩

/-! ## Glyphs (R131) -/

theorem patternOf_space (st : Store) : patternOf st 0x20 = 0 := rfl

section
variable (st : Store) {code : Byte}

theorem patternOf_fixed (fixed : 0x21 ≤ code.toNat ∧ code.toNat ≤ 0x7E ∨ 0xC0 ≤ code.toNat) : patternOf st code = Config.fixedGlyph code := by
  have notSpace : code ≠ 0x20 := by rintro rfl; revert fixed; decide
  rw [patternOf, if_neg notSpace]
  rcases fixed with low | high
  · exact if_pos low.2
  · rw [if_neg (by omega), if_neg (by omega), if_neg (by omega)]

theorem patternOf_box (low : 0x7F ≤ code.toNat) (high : code.toNat ≤ 0x9F) : patternOf st code = substitutionBox := by
  have notSpace : code ≠ 0x20 := by rintro rfl; revert low; decide
  rw [patternOf, if_neg notSpace, if_neg (by omega), if_pos high]

theorem patternOf_user {n : Fin 32} (slot : code.toNat = 0xA0 + n.val) :
    patternOf st code = if st.glyphs[n].valid then st.glyphs[n].pattern else substitutionBox := by
  have notSpace : code ≠ 0x20 := by
    rintro rfl
    have : (0x20 : Byte).toNat = 32 := rfl
    omega
  have index : code.toNat - 0xA0 = n.val := by omega
  have glyph : (st.glyphs[code.toNat - 0xA0]?).getD {} = st.glyphs[n] := by
    rw [index]
    simp
  rw [patternOf, if_neg notSpace, if_neg (by omega), if_neg (by omega), if_pos (by omega), glyph]

end

/-! ## The pen (R134) -/

section
variable {st : Store} {pen : Nat} {placed : List Placed} {c : PortCell}

theorem placeCell_mark (mark : c.isMark = true) : placeCell st (pen, placed) c = (pen, placed) := by
  unfold PortCell.isMark at mark
  rw [placeCell]
  split at mark
  · cases mark
  · next body => rw [body]
  · next body => rw [body]

variable {code : Byte} {style : Style} (body : c.body = .char code style)
include body

theorem placeCell_printed (printed : 0x20 ≤ code.toNat) : placeCell st (pen, placed) c
    = (pen + styleWidth style, { left := pen, style := style, pattern := patternOf st code } :: placed) := by
  rw [placeCell, body]
  exact if_pos ((isPrinted_iff code).mpr printed)

theorem placeCell_backspace (bs : code = 0x08) : (placed = [] → placeCell st (pen, placed) c = (pen, []))
    ∧ ∀ last before, placed = last :: before → placeCell st (pen, placed) c = (pen - styleWidth last.style, before) := by
  subst bs
  rw [placeCell, body]
  refine ⟨fun none => ?_, fun last before some => ?_⟩
  · subst none
    rfl
  · subst some
    rfl

theorem placeCell_tab (tab : code = 0x09) : placeCell st (pen, placed) c = if 384 < tabStop pen then (pen, placed) else (tabStop pen, placed) := by
  subst tab
  rw [placeCell, body]
  rfl

theorem placeCell_other (control : code.toNat < 0x20) (notBs : code ≠ 0x08) (notTab : code ≠ 0x09) :
    placeCell st (pen, placed) c = (pen, placed) := by
  rw [placeCell, body]
  exact (if_neg (mt (isPrinted_iff code).mp (Nat.not_le.mpr control))).trans ((if_neg notBs).trans (if_neg notTab))

end

/-! ## The band (R132, R135) -/

theorem bandHeight_eq (placed : List Placed) : bandHeight placed = if ∃ c ∈ placed, c.style = .tall then 32 else 16 := by
  rw [bandHeight]
  refine ite_congr ?_ (fun _ => rfl) fun _ => rfl
  simp

theorem le_bandHeight (placed : List Placed) : 16 ≤ bandHeight placed := by
  rw [bandHeight]
  split <;> decide

/-- A number written by its digits of `w` bits each. -/
theorem digits_spec {w : Nat} (pos : 0 < w) (f : Nat → Nat) (small : ∀ c, f c < 2 ^ w) (n : Nat) :
    let a := (List.range n).foldl (fun acc c => acc + 2 ^ (w * c) * f c) 0
    a < 2 ^ (w * n) ∧ ∀ i, a.testBit i = (decide (i < w * n) && (f (i / w)).testBit (i % w)) := by
  induction n with
  | zero => simp
  | succ n ih =>
    obtain ⟨bound, bits⟩ := ih
    dsimp only at bound bits ⊢
    rw [List.range_succ, List.foldl_append, List.foldl_cons, List.foldl_nil]
    generalize (List.range n).foldl (fun acc c => acc + 2 ^ (w * c) * f c) 0 = a at bound bits
    have next : w * (n + 1) = w * n + w := Nat.mul_succ w n
    refine ⟨?_, fun i => ?_⟩
    · calc a + 2 ^ (w * n) * f n < 2 ^ (w * n) * (f n + 1) := by rw [Nat.mul_succ]; omega
        _ ≤ 2 ^ (w * n) * 2 ^ w := Nat.mul_le_mul_left _ (small n)
        _ = 2 ^ (w * (n + 1)) := by rw [← Nat.pow_add, next]
    · rw [Nat.add_comm, Nat.testBit_two_pow_mul_add _ bound]
      split
      · next low =>
        rw [bits, decide_eq_true low, decide_eq_true (by omega)]
      · next high =>
        by_cases within : i < w * (n + 1)
        · have digit : i / w = n := Nat.div_eq_of_lt_le (by rw [Nat.mul_comm]; omega) (by rw [Nat.mul_comm]; omega)
          have rest : i % w = i - w * n := by rw [Nat.mod_def, digit]
          rw [digit, rest, decide_eq_true within, Bool.true_and]
        · rw [decide_eq_false within, Bool.false_and]
          exact Nat.testBit_lt_two_pow (Nat.lt_of_lt_of_le (small n) (Nat.pow_le_pow_right (by decide) (by omega)))

section
variable (p : Pattern) (row i : Nat)

theorem patternRow_digits : patternRow p row
    = (List.range 12).foldl (fun acc c => acc + 2 ^ (1 * c) * if Pattern.dot p c row then 1 else 0) 0 := by
  rw [patternRow]
  congr 1
  funext acc c
  cases Pattern.dot p c row <;> simp

theorem patternRowWide_digits : patternRowWide p row
    = (List.range 12).foldl (fun acc c => acc + 2 ^ (2 * c) * if Pattern.dot p c row then 3 else 0) 0 := by
  rw [patternRowWide]
  congr 1
  funext acc c
  rw [Nat.pow_mul]
  cases Pattern.dot p c row <;> simp [Nat.mul_comm]

theorem patternRow_lt : patternRow p row < 2 ^ 12 := by
  rw [patternRow_digits]
  exact (digits_spec (w := 1) (by decide) (fun c => if Pattern.dot p c row then 1 else 0) (fun c => by split <;> decide) 12).1

theorem testBit_patternRow : (patternRow p row).testBit i = (decide (i < 12) && Pattern.dot p i row) := by
  have bits := (digits_spec (w := 1) (by decide) (fun c => if Pattern.dot p c row then 1 else 0) (fun c => by split <;> decide) 12).2 i
  rw [patternRow_digits, bits, Nat.div_one, Nat.mod_one]
  cases Pattern.dot p i row <;> rfl

theorem testBit_patternRowWide : (patternRowWide p row).testBit i = (decide (i < 24) && Pattern.dot p (i / 2) row) := by
  have bits := (digits_spec (w := 2) (by decide) (fun c => if Pattern.dot p c row then 3 else 0) (fun c => by split <;> decide) 12).2 i
  rw [patternRowWide_digits, bits]
  congr 1
  cases Pattern.dot p (i / 2) row with
  | false => exact Nat.zero_testBit _
  | true => rcases Nat.mod_two_eq_zero_or_one i with even | odd <;> simp [*, Nat.testBit]

theorem testBit_inverse : (0xFFF - patternRow p row).testBit i = (decide (i < 12) && !Pattern.dot p i row) := by
  have inverse : 0xFFF - patternRow p row = 2 ^ 12 - (patternRow p row + 1) := by omega
  rw [inverse, Nat.testBit_two_pow_sub_succ (patternRow_lt p row), testBit_patternRow]
  cases decide (i < 12) <;> simp

end

section
variable {height band : Nat} (tall : 16 ≤ height) (c : Placed) (i : Nat)

theorem cellRow_tall (style : c.style = .tall) : (cellRow height band c).testBit i = true
    ↔ i < 12 ∧ Pattern.dot c.pattern i (band / 2) = true := by
  rw [cellRow, style]
  simp [testBit_patternRow]

include tall

/-- A cell of a style that is not Tall stands in the lowest 16 rows of the band. -/
theorem testBit_low_rows (n : Nat → Nat) (P : Nat → Prop) (dots : ∀ row, (n row).testBit i = true ↔ P row) :
    (if band + 16 < height then 0 else n (band + 16 - height)).testBit i = true ↔ height - 16 ≤ band ∧ P (band - (height - 16)) := by
  have row : band + 16 - height = band - (height - 16) := by omega
  split
  · next above =>
    have below : ¬ height - 16 ≤ band := by omega
    simp [below]
  · next within =>
    have below : height - 16 ≤ band := by omega
    rw [row, dots]
    simp [below]

theorem cellRow_normal (style : c.style = .normal) : (cellRow height band c).testBit i = true
    ↔ height - 16 ≤ band ∧ i < 12 ∧ Pattern.dot c.pattern i (band - (height - 16)) = true := by
  rw [cellRow, style]
  exact testBit_low_rows tall i _ (fun row => i < 12 ∧ Pattern.dot c.pattern i row = true) fun row => by simp [testBit_patternRow]

theorem cellRow_wide (style : c.style = .wide) : (cellRow height band c).testBit i = true
    ↔ height - 16 ≤ band ∧ i < 24 ∧ Pattern.dot c.pattern (i / 2) (band - (height - 16)) = true := by
  rw [cellRow, style]
  exact testBit_low_rows tall i _ (fun row => i < 24 ∧ Pattern.dot c.pattern (i / 2) row = true) fun row => by simp [testBit_patternRowWide]

theorem cellRow_inverse (style : c.style = .inverse) : (cellRow height band c).testBit i = true
    ↔ height - 16 ≤ band ∧ i < 12 ∧ Pattern.dot c.pattern i (band - (height - 16)) = false := by
  rw [cellRow, style]
  exact testBit_low_rows tall i (fun row => 0xFFF - patternRow c.pattern row) (fun row => i < 12 ∧ Pattern.dot c.pattern i row = false)
    fun row => by simp [testBit_inverse]

end

theorem getLsbD_foldl_or {α : Type} {n : Nat} (g : α → BitVec n) (l : List α) (acc : BitVec n) (x : Nat) :
    (l.foldl (fun acc a => acc ||| g a) acc).getLsbD x = true ↔ acc.getLsbD x = true ∨ ∃ a ∈ l, (g a).getLsbD x = true := by
  induction l generalizing acc with
  | nil => simp
  | cons a l ih =>
    rw [List.foldl_cons, ih, BitVec.getLsbD_or, Bool.or_eq_true, or_assoc]
    simp

theorem getLsbD_bandRow (placed : List Placed) (b : Nat) {x : Nat} (within : x < 384) : (bandRow placed b).getLsbD x = true
    ↔ ∃ c ∈ placed, c.left ≤ x ∧ (cellRow (bandHeight placed) b c).testBit (x - c.left) = true := by
  rw [bandRow, getLsbD_foldl_or]
  have none : (0 : DotRow).getLsbD x = false := BitVec.getLsbD_zero
  rw [none]
  have bit (n left : Nat) : (BitVec.ofNat 384 n <<< left).getLsbD x = (decide (left ≤ x) && n.testBit (x - left)) := by
    have near : x - left < 384 := by omega
    simp only [BitVec.getLsbD_shiftLeft, BitVec.getLsbD_ofNat, within, near, decide_true, Bool.true_and]
    by_cases low : x < left
    · rw [decide_eq_true low, decide_eq_false (Nat.not_le.mpr low)]
      rfl
    · rw [decide_eq_false low, decide_eq_true (Nat.not_lt.mp low)]
      rfl
  simp only [bit, Bool.false_eq_true, false_or, Bool.and_eq_true, decide_eq_true_eq]

/-! ## The substitution box (R131) -/

/-- A fold that sets the bit of each number that has a property. -/
theorem getLsbD_foldl_set {n : Nat} (P : Nat → Bool) (l : List Nat) (acc : BitVec n) {x : Nat} (within : x < n) :
    (l.foldl (fun acc i => if P i then acc ||| (1#n <<< i) else acc) acc).getLsbD x = true
      ↔ acc.getLsbD x = true ∨ x ∈ l ∧ P x = true := by
  induction l generalizing acc with
  | nil => simp
  | cons i l ih =>
    have bit : (1#n <<< i).getLsbD x = decide (x = i) := by
      simp only [BitVec.getLsbD_shiftLeft, BitVec.getLsbD_one, within, decide_true, Bool.true_and]
      rw [Bool.eq_iff_iff]
      simp
      omega
    rw [List.foldl_cons, ih]
    by_cases marked : P i = true
    · rw [if_pos marked, BitVec.getLsbD_or, bit]
      by_cases same : x = i
      · simp [same, marked]
      · simp [same]
    · rw [if_neg marked]
      by_cases same : x = i
      · simp [same, marked]
      · simp [same]

theorem boxDot_iff (c r : Nat) : boxDot c r = true
    ↔ ((r = 1 ∨ r = 14) ∧ 1 ≤ c ∧ c ≤ 10) ∨ ((c = 1 ∨ c = 10) ∧ 2 ≤ r ∧ r ≤ 13) := by
  simp [boxDot]

theorem dot_substitutionBox (c : Fin 12) (r : Fin 16) : Pattern.dot substitutionBox c.val r.val = true
    ↔ ((r.val = 1 ∨ r.val = 14) ∧ 1 ≤ c.val ∧ c.val ≤ 10) ∨ ((c.val = 1 ∨ c.val = 10) ∧ 2 ≤ r.val ∧ r.val ≤ 13) := by
  have column : (16 * c.val + r.val) / 16 = c.val := by omega
  have row : (16 * c.val + r.val) % 16 = r.val := by omega
  have none : (0 : Pattern).getLsbD (16 * c.val + r.val) = false := BitVec.getLsbD_zero
  have inRange : 16 * c.val + r.val ∈ List.range 192 := List.mem_range.mpr (by omega)
  rw [Pattern.dot, substitutionBox, getLsbD_foldl_set (fun i => boxDot (i / 16) (i % 16)) _ _ (by omega), none, column, row, boxDot_iff]
  simp [inRange]

/-! ## The obligation -/

theorem lineEntries_cases {st : Store} {cfg : ComposerSettings} {line : List PortCell} (some : ∃ c ∈ line, c.isMark = false) :
    let band := placeLine st line
    let white := cfg.lineGap + (if endsWithFF line then cfg.tear else 0)
    let entries := lineEntries st cfg line
    ((entries.map RowEntry.rows).sum = bandHeight band + white)
    ∧ entries.flatMap RowEntry.expand = (List.range (bandHeight band)).map (bandRow band) ++ List.replicate white 0
    ∧ (∀ e ∈ entries, e.Proper)
    ∧ (∀ before n m behind, entries = before ++ .feed n :: .feed m :: behind → n = 255) := by
  intro band white entries
  have is : entries = rowEntries 0 (lineRows st cfg line) := lineEntries_of_char some
  have rows : entries.flatMap RowEntry.expand = (List.range (bandHeight band)).map (bandRow band) ++ List.replicate white 0 := by
    rw [is, expand_rowEntries]
    rfl
  refine ⟨?_, rows, fun e mem => proper_rowEntries (is ▸ mem), is ▸ feedsFull_rowEntries 0 _⟩
  have lengths := congrArg List.length rows
  rw [List.length_flatMap, List.length_append, List.length_map, List.length_range, List.length_replicate] at lengths
  rw [← lengths]
  congr 2
  funext e
  exact (length_expand e).symm

/-- Settles O49: entries by induction on the rows; the dots of a band row by the digits of its cells' rows. -/
theorem lineRowsAddUp : Obligations.LineRowsAddUp := by
  refine ⟨fun st cfg line => lineEntries_of_marks, fun st cfg line some => ?entries, endsWithFF_iff,
    fun st code => ⟨fun is => is ▸ patternOf_space st, patternOf_fixed st, patternOf_box st, fun n => patternOf_user st⟩, fun st line => rfl,
    fun st pen placed c => ?pen, bandHeight_eq, fun placed b x inBand within => ?dots, dot_substitutionBox⟩
  case entries =>
    obtain ⟨sum, rows, proper, full⟩ := lineEntries_cases (st := st) (cfg := cfg) some
    refine ⟨sum, ?_, fun e mem => ?_, full⟩
    · exact rows
    · have ok := proper e mem
      cases e <;> exact ok
  case pen =>
    intro after width tab
    have widths (x : Style) : styleWidth x = width x := styleWidth_eq x
    have stop : tabStop pen = tab := tabStop_eq pen
    refine ⟨placeCell_mark, fun code style body => ⟨fun printed => ?_, fun bs => ?_, fun isTab => ?_, placeCell_other body⟩⟩
    · rw [← widths]
      exact placeCell_printed body printed
    · obtain ⟨empty, back⟩ := placeCell_backspace (st := st) (pen := pen) (placed := placed) body bs
      exact ⟨empty, fun last before is => by rw [← widths]; exact back last before is⟩
    · have moves := placeCell_tab (st := st) (pen := pen) (placed := placed) body isTab
      rw [stop] at moves
      exact ⟨fun past => moves.trans (if_pos past), fun fits => moves.trans (if_neg (Nat.not_lt.mpr fits))⟩
  case dots =>
    intro base
    rw [getLsbD_bandRow placed b within]
    refine exists_congr fun c => and_congr_right fun _ => and_congr_right fun from' => ?_
    have tall := le_bandHeight placed
    have reach (width : Nat) : x - c.left < width ↔ x < c.left + width := by omega
    cases style : c.style with
    | tall =>
      rw [cellRow_tall c _ style, reach 12]
      rfl
    | normal =>
      rw [cellRow_normal tall c _ style, reach 12]
      exact and_left_comm
    | wide =>
      rw [cellRow_wide tall c _ style, reach 24]
      exact and_left_comm
    | inverse =>
      rw [cellRow_inverse tall c _ style, reach 12]
      exact and_left_comm

end Sys2Proof.Machine
end
